-- ==== Sys2Proof/Word.lean ====
section
/-! DEFINITION. The word types of the FW2416 and its small fixed ranges. -/

namespace Sys2Proof

/-- One byte: of a frame, of the host port, of local memory, of the configuration image. -/
abbrev Byte := BitVec 8

/-- A station number 0..15 (R18, R169). -/
abbrev StationNo := Fin 16

/-- A tag 0..15: the number of an entry of the Outstanding Request Table (R90). -/
abbrev Tag := Fin 16

/-- The index 0..7 of a window (R2). -/
abbrev WindowIdx := Fin 8

/-- A list of exactly four bytes in ascending address order: a compare, new, old or notify value
(R18, R125). It is a list of bytes, not a number. -/
abbrev Word4 := Vector Byte 4

end Sys2Proof
end

