-- ==== Sys2Proof/Syntax.lean ====
section
/-! DEFINITION. The commands of the FW2416: one constructor per row of spec/opcode_table.json, and the
operands they carry (frames of the trunk, the sampled slot, host port operands). -/

namespace Sys2Proof.Machine

/-- The operation a request asks for (R18, R73). -/
inductive Op where
  | write | writeAcked | read | swap
  deriving DecidableEq, Repr

/-- What a request frame carries after its kind and source, beside the address (R18). A WRITE has no
tag; a SWAP has no length, it covers 4 bytes. -/
inductive ReqBody where
  | write (data : List Byte)
  | writeAcked (tag : Tag) (data : List Byte)
  | read (tag : Tag) (length : Nat)
  | swap (tag : Tag) (compareValue newValue : Word4)
  deriving DecidableEq, Repr

/-- The op of a request body. -/
def ReqBody.op : ReqBody → Op
  | .write _ => .write
  | .writeAcked _ _ => .writeAcked
  | .read _ _ => .read
  | .swap _ _ _ => .swap

/-- The tag of a request body; absent for WRITE (R18). -/
def ReqBody.tag : ReqBody → Option Tag
  | .write _ => none
  | .writeAcked t _ => some t
  | .read t _ => some t
  | .swap t _ _ => some t

/-- The bytes a request covers (R1): the length field, which for WRITE and WRITE_ACKED is the data
count, and 4 for a SWAP. -/
def ReqBody.length : ReqBody → Nat
  | .write d => d.length
  | .writeAcked _ d => d.length
  | .read _ n => n
  | .swap _ _ _ => 4

/-- A request frame: WRITE, WRITE_ACKED, READ or SWAP (R18). -/
structure ReqFrame where
  source : StationNo
  address : BitVec 32
  body : ReqBody
  deriving DecidableEq, Repr

/-- The status of a completion frame (R18). -/
inductive CplStatus where
  | ok | memoryFault
  deriving DecidableEq, Repr

/-- A COMPLETION frame (R18, R20). -/
structure CplFrame where
  source : StationNo
  destination : StationNo
  tag : Tag
  status : CplStatus
  swapped : Bool
  data : List Byte
  deriving DecidableEq, Repr

/-- A frame of the trunk (R18): a request, a COMPLETION or a BEACON. -/
inductive Frame where
  | request (f : ReqFrame)
  | completion (f : CplFrame)
  | beacon (source : StationNo)
  deriving DecidableEq, Repr

/-- The source of a frame (R18). -/
def Frame.source : Frame → StationNo
  | .request f => f.source
  | .completion f => f.source
  | .beacon s => s

/-- An acknowledgment slot as the line shows it at its end (R27, R185). `corrupt` says that the CORRUPT
mark reads dominant; in the fields a bit 0 is dominant and a bit 1 recessive. -/
structure SlotCells where
  corrupt : Bool
  number : BitVec 4
  complement : BitVec 4
  code : BitVec 2
  codeComplement : BitVec 2
  deriving DecidableEq, Repr

/-- The 19 operand bytes of SUBMIT by field (R186): `flags` is descriptor byte 0 (op, FENCE, URGENT). -/
structure RawDescriptor where
  flags : Byte
  address : BitVec 32
  length : Byte
  localAddress : BitVec 24
  cookie : BitVec 16
  compareValue : Word4
  newValue : Word4
  deriving DecidableEq, Repr

/-- The 13 configuration bytes of a window entry by field (R186): `flags` is byte 0 (enabled, kind, R, W). -/
structure RawWindow where
  flags : Byte
  trunkBase : BitVec 32
  length : BitVec 24
  localBase : BitVec 24
  allowed : BitVec 16
  deriving DecidableEq, Repr

/-- The operand of CONFIG_READ (R164): an item, for the window item with its index byte. -/
inductive ConfigItem where
  | number | ct | waitLimit
  | window (index : Byte)
  | noItem (selector : Byte)
  deriving DecidableEq, Repr

/-- The operand of CONFIG_WRITE (R165): an item with its value as the host port carries it. -/
inductive ConfigValue where
  | number (v : Byte)
  | ct (v : BitVec 16)
  | waitLimit (v : Byte)
  | window (index : Byte) (w : RawWindow)
  | noItem (selector : Byte)
  deriving DecidableEq, Repr

/-- Where the request of a response reservation stands (R67): in the service queue or in the response
queue, at this position counted from the head. -/
inductive ReservationPlace where
  | service (i : Fin 8)
  | response (i : Fin 8)
  deriving DecidableEq, Repr

end Sys2Proof.Machine

namespace Sys2Proof

open Machine

/-- The commands: one constructor per row of spec/opcode_table.json. -/
inductive Instr where
  /-- PIN_RESET (R170): RESET# is asserted, or power comes on. -/
  | pinReset
  /-- RESET_RELEASE (R170): RESET# is released. -/
  | resetRelease
  /-- END_OF_LOADING (R175): the loader has read the EEPROM (`none`: it did not acknowledge its address;
  a byte past the list's end reads FFh, R188) and the straps SID3..SID0 are sampled. -/
  | endOfLoading (eeprom : Option (List Byte)) (straps : StationNo)
  /-- HOST_FRAME_START (R154): HSEL# falls. -/
  | hostFrameStart
  /-- HOST_FRAME_END (R157): HSEL# rises. -/
  | hostFrameEnd
  /-- STATUS (R159). -/
  | status
  /-- SUBMIT (R75) of a request descriptor. -/
  | submit (d : RawDescriptor)
  /-- TAKE_COMPLETION (R122). -/
  | takeCompletion
  /-- TAKE_NOTIFY (R128). -/
  | takeNotify
  /-- READ_EVENTS (R163). -/
  | readEvents
  /-- ACK_EVENTS (R146) of a set of categories. -/
  | ackEvents (categories : Byte)
  /-- SET_MASK (R147): a 1 masks the category. -/
  | setMask (categories : Byte)
  /-- SET_THRESHOLD (R147). -/
  | setThreshold (value : Byte)
  /-- SET_LINE_MODE (R150) by its code. -/
  | setLineMode (code : Byte)
  /-- READ_PRESENCE (R160). -/
  | readPresence
  /-- READ_COUNTERS (R153). -/
  | readCounters
  /-- CLEAR_COUNTERS (R153) of a set of counters. -/
  | clearCounters (counters : BitVec 16)
  /-- READ_FAULT (R161). -/
  | readFault
  /-- CONFIG_READ (R164). -/
  | configRead (item : ConfigItem)
  /-- CONFIG_WRITE (R165). -/
  | configWrite (value : ConfigValue)
  /-- JOIN (R166). -/
  | join
  /-- LEAVE (R179). -/
  | leave
  /-- ABORT (R181). -/
  | abort
  /-- RESTART (R168). -/
  | restart
  /-- CONTENTION_SLOT (R39): this slot of the round begins. -/
  | contentionSlot (slot : Fin 48)
  /-- ROUND_OPEN (R37): the trunk becomes idle, or slot 47 has passed. -/
  | roundOpen
  /-- SLOT_BEGIN (R30): the acknowledgment slot begins. -/
  | slotBegin
  /-- SLOT_END (R29): the slot ends and shows these levels. -/
  | slotEnd (cells : SlotCells)
  /-- OWN_FRAME_SENT (R43): the own frame has been sent to its end delimiter. -/
  | ownFrameSent
  /-- COLLISION (R24): the own-transmission monitor sees a mismatch. -/
  | collision
  /-- REQUEST_FRAME_RECEIVED (R25): a clean request frame another station sent. -/
  | requestFrameReceived (f : ReqFrame)
  /-- COMPLETION_FRAME_RECEIVED (R101): a clean COMPLETION another station sent. -/
  | completionFrameReceived (f : CplFrame)
  /-- BEACON_RECEIVED (R48): a clean BEACON another station sent. -/
  | beaconReceived (source : StationNo)
  /-- CORRUPT_RECEPTION (R26): a frame classed corrupt; whether a slot follows it (R23). -/
  | corruptReception (slotFollows : Bool)
  /-- PRESENCE_TIMEOUT (R48) of one entry's presence timer. -/
  | presenceTimeout (st : StationNo)
  /-- BEACON_TIMER_EXPIRY (R44). -/
  | beaconTimerExpiry
  /-- JOIN_HOLDOFF_EXPIRY (R178). -/
  | joinHoldoffExpiry
  /-- HOLDOFF_EXPIRY (R97) of one entry. -/
  | holdoffExpiry (t : Tag)
  /-- COMPLETION_TIMEOUT (R100) of one entry. -/
  | completionTimeout (t : Tag)
  /-- QUARANTINE_EXPIRY (R112) of one entry. -/
  | quarantineExpiry (t : Tag)
  /-- LIFETIME_EXPIRY (R67) of one reservation. -/
  | lifetimeExpiry (place : ReservationPlace)
  /-- ISSUE (R84). -/
  | issue
  /-- PLACE_RECORD (R121). -/
  | placeRecord
  /-- MEMORY_GRANT (R137). -/
  | memoryGrant
  /-- WORD_ACCESS_COMPLETE (R133): MREADY is seen. `some w`: since the station's last access to it, the
  local controller has set the word to `w` through its own side of the memory (R136; log entry 5). -/
  | wordAccessComplete (otherSide : Option (BitVec 16))
  /-- WAIT_TIMER_EXPIRY (R133). -/
  | waitTimerExpiry
  /-- NOTIFY_SERVICE (R64). -/
  | notifyService
  /-- END_OF_DRAINING (R180). -/
  | endOfDraining
  /-- HINT_PULSE_END (R149). -/
  | hintPulseEnd
  /-- START_DELIMITER_SEEN (R37): another station's frame starts. -/
  | startDelimiterSeen
  /-- HOST_BYTE_COMPLETE (R154): the eighth rising edge of HCLK completes this byte. -/
  | hostByteComplete (b : Byte)
  deriving DecidableEq, Repr

end Sys2Proof
end

