-- ==== Sys2Proof/Decode.lean ====
section
/-! DEFINITION. The command that a word spells by the bits of spec/opcode_table.json. -/

namespace Sys2Proof

/-- No row of spec/opcode_table.json gives bits: the rows are steps of the station (events at its pins,
host port commands, expiries), and none is spelled by a word. So no word spells a command. (The byte
codes of the host port commands, R186, are read by the frame decoder of R154: Machine/HostFrames.lean;
the frames of the trunk, R184, by Machine/Wire.lean.) -/
def decodeTableWord (_nbits _w : Nat) : Option Instr := none

end Sys2Proof
end

