-- ==== Sys2Proof/Config.lean ====
section
/-! DEFINITION. The free values: what the manual leaves open while the station goes on. Each is a
constant without a body, so nothing can be proved about its value. -/

namespace Sys2Proof

/-- The bits of a host port response to which R186 gives no meaning (the spare bits of a flags byte,
the bytes of an absent field): for the `k`-th response that has such bits, the byte at position `pos`.
Only the bits that the layout leaves open are taken from it. FREE VALUE, log entry 2. -/
opaque Config.freeByte : Nat → Nat → Byte

/-- Whether a byte of a write access that a pin reset or RESTART cuts short keeps its old value, or
takes the value being written: R140 says one or the other. For the `k`-th such cut, the byte at local
address `a`. FREE VALUE, log entry 3. -/
opaque Config.cutKeepsOld : Nat → Nat → Bool

end Sys2Proof
end

