-- ==== Sys2Proof/Machine/State.lean ====
section
/-! DEFINITION. The state of the station, block by block, the reasons a step can stop, and the state
right after reset. -/

namespace Sys2Proof.Machine

/-! ### Station Controller (R169) -/

/-- The six station states (R169). -/
inductive StationState where
  | loading | config | joining | online | draining | detached
  deriving DecidableEq, Repr

/-- The load result (R173). -/
inductive LoadResult where
  | absent | blank | corrupt | loaded
  deriving DecidableEq, Repr

/-- The Station Controller (R169), with the working configuration but its window table. -/
structure Controller where
  /-- The station state. -/
  station : StationState
  /-- The own station number. -/
  number : StationNo
  /-- CT, the completion timeout in ticks, as stored (0..4095). -/
  ct : BitVec 12
  /-- The memory wait limit in µs (1..15). -/
  waitLimit : BitVec 8
  /-- The result of the last loading. -/
  loadResult : LoadResult
  /-- The join holdoff timer: its ticks remaining while it runs. -/
  joinHoldoff : Option Nat
  deriving DecidableEq, Repr

/-! ### Window Decoder (R2) -/

inductive WindowKind where
  | memory | notify
  deriving DecidableEq, Repr

/-- The refusal reasons of R7. -/
inductive RefusalReason where
  | range | initiator | rights | notifyForm | swapAlign
  deriving DecidableEq, Repr

/-- The configuration fields of a window entry (R2), as the host port and the image store them. -/
structure WindowConfig where
  enabled : Bool
  kind : WindowKind
  trunkBase : BitVec 32
  length : BitVec 24
  localBase : BitVec 24
  readRight : Bool
  writeRight : Bool
  /-- Bit n is set when station n is an allowed initiator. -/
  allowed : BitVec 16
  deriving DecidableEq, Repr

/-- A window entry (R2): its configuration and what the station records against it. -/
structure Window where
  config : WindowConfig
  /-- 0..255, saturating. -/
  conflictCount : BitVec 8
  /-- 0..65535, saturating. -/
  refusalCount : BitVec 16
  lastRefusal : Option (RefusalReason × StationNo)
  deriving DecidableEq, Repr

/-! ### Access Unit (R36) and Presence Monitor (R44, R46) -/

inductive Sync where
  | lost | inSync
  deriving DecidableEq, Repr

/-- The Access Unit's three items (R36). -/
structure AccessUnit where
  rotation : StationNo
  sync : Sync
  /-- The consecutive-collision count, 0..4. -/
  collisions : Nat
  deriving DecidableEq, Repr

/-- An entry of the presence table (R46): PRESENT holds the ticks remaining of its presence timer. -/
inductive Presence where
  | self
  | present (ticks : Nat)
  | absent
  deriving DecidableEq, Repr

/-- The beacon timer (R44): it stays expired until the next own transmission restarts it. -/
inductive BeaconTimer where
  | stopped
  | running (ticks : Nat)
  | expired
  deriving DecidableEq, Repr

/-- The Presence Monitor (R44 to R46). -/
structure PresenceMonitor where
  table : Vector Presence 16
  beaconTimer : BeaconTimer
  beaconQueued : Bool
  deriving DecidableEq, Repr

/-! ### Trunk Interface (R22 to R31, R37) -/

/-- Where an own frame came from: the ORT entry of this tag, the head of the response queue (with the
completion's destination), or the beacon queue. -/
inductive Origin where
  | request (t : Tag)
  | completion (destination : StationNo)
  | beacon
  deriving DecidableEq, Repr

/-- What a permitted request reaches (R13): the local address of a MEMORY window, or the word offset in
a NOTIFY window. -/
inductive Dest where
  | memory (localAddress : Nat)
  | notify (wordOffset : Nat)
  deriving DecidableEq, Repr

/-- The claim decision of R56. ACCEPT keeps the Window Decoder's result. -/
inductive Decision where
  | accept (dest : Dest)
  | busy
  | refuse
  deriving DecidableEq, Repr

/-- A claim: the window that matched, the request frame claimed, the decision. -/
structure Claim where
  window : WindowIdx
  frame : ReqFrame
  decision : Decision
  deriving DecidableEq, Repr

/-- The marks decided for a slot, or being driven in it (R28). -/
inductive Mark where
  | none
  /-- The CORRUPT mark. -/
  | corrupt
  /-- Own number and the code of the claim decision. -/
  | claim (c : Claim)
  /-- Own number and ACCEPT, for a COMPLETION to the own number (R33). -/
  | completion
  deriving DecidableEq, Repr

/-- The acknowledgment slot that follows the frame just ended, until the slot has ended (R22). -/
structure Exchange where
  /-- The origin of the frame when it is an own frame: the outcome is handed there. -/
  sender : Option Origin
  mark : Mark
  /-- The slot has begun, and `mark` is being driven; before that it is only decided. -/
  begun : Bool
  /-- The own station number with which the mark was decided: a mark being driven keeps it (R30). -/
  number : StationNo
  deriving DecidableEq, Repr

/-- An own frame on the wire, with its origin. -/
structure Transmission where
  frame : Frame
  origin : Origin
  deriving DecidableEq, Repr

/-- How the station sees the trunk (R37): busy (or not yet seen idle), or idle with a contention round
open, of which slot `next` is the one to begin next, or 48 when slot 47 has begun. -/
inductive Trunk where
  | busy
  | idle (next : Nat)
  deriving DecidableEq, Repr

/-- The Trunk Interface. -/
structure Tif where
  tx : Option Transmission
  exchange : Option Exchange
  /-- The CORRUPT mark is decided for the slot of a frame that ended while the slot of `exchange` was still to
  end (log entry 10). -/
  corruptNext : Bool
  /-- R23: the receiver has seen the start delimiter of the frame of another station that is passing. -/
  incoming : Bool
  trunk : Trunk
  deriving DecidableEq, Repr

/-- The Trunk Interface with this own frame, or none, on the wire, the trunk busy, no exchange under way and
no frame incoming. -/
def Tif.busyWith (tx : Option Transmission) : Tif where
  tx := tx
  exchange := none
  corruptNext := false
  incoming := false
  trunk := .busy

/-! ### Target Engine (R52 to R54) -/

/-- The reservation field of a service entry (R52, R53): absent, live with the ticks remaining of its
lifetime, or the note that it has expired. -/
inductive Reservation where
  | none
  | live (ticks : Nat)
  | expired
  deriving DecidableEq, Repr

/-- A service entry (R52). Source, op, tag, length and data are those of the request frame. -/
structure ServiceEntry where
  request : ReqFrame
  window : WindowIdx
  dest : Dest
  reservation : Reservation
  notifyHold : Bool
  deriving DecidableEq, Repr

/-- A response entry (R54). Its reservation is always live: `lifetime` is its ticks remaining. -/
structure ResponseEntry where
  destination : StationNo
  tag : Tag
  status : CplStatus
  swapped : Bool
  data : List Byte
  lifetime : Nat
  /-- Corrupt resends used, 0..3. -/
  resends : Nat
  /-- The entry's frame is on the trunk, or its slot has not ended (R68). -/
  onTrunk : Bool
  deriving DecidableEq, Repr

/-- The Target Engine (R52 to R54). -/
structure TargetEngine where
  service : List ServiceEntry
  responses : List ResponseEntry
  /-- The non-posted reservation count. -/
  nonPosted : Nat
  deriving DecidableEq, Repr

/-! ### Issue Engine (R73, R77, R87) and Outstanding Request Table (R90) -/

/-- A request descriptor in the request queue (R73). -/
structure Descriptor where
  op : Op
  fence : Bool
  urgent : Bool
  address : BitVec 32
  length : Nat
  localAddress : Nat
  cookie : BitVec 16
  /-- SWAP only. -/
  compareValue : Option Word4
  /-- SWAP only. -/
  newValue : Option Word4
  deriving DecidableEq, Repr

/-- The Issue Engine: the request queue and the unsent list. -/
structure IssueEngine where
  requestQueue : List Descriptor
  unsent : List Tag
  deriving DecidableEq, Repr

/-- The state of an ORT entry (R91), with the ticks remaining of the one timer that runs in it. -/
inductive EntryState where
  | free | fetching | ready
  | hold (ticks : Nat)
  | awaiting (ticks : Nat)
  | storing | done
  | stale (ticks : Nat)
  deriving DecidableEq, Repr

/-- The result statuses of R90 and R118. -/
inductive Status where
  | ok | denied | unclaimed | conflict | busyExhausted | corruptExhausted
  | timeout | targetLost | remoteFault | localFault | aborted
  deriving DecidableEq, Repr

/-- An ORT entry (R90). Its tag is its position in the table, its issue position that of its tag in
`Ort.issueOrder`. -/
structure OrtEntry where
  state : EntryState
  op : Op
  urgent : Bool
  address : BitVec 32
  length : Nat
  localAddress : Nat
  cookie : BitVec 16
  compareValue : Option Word4
  newValue : Option Word4
  target : Option StationNo
  /-- Busy retries used, 0..8. -/
  busyRetries : Nat
  /-- Corrupt resends used, 0..3. -/
  corruptResends : Nat
  /-- The meaningful bytes of the 64-byte data buffer. -/
  buffer : List Byte
  endingMark : Bool
  result : Option Status
  oldValue : Option Word4
  swapped : Option Bool
  deriving DecidableEq, Repr

/-- A FREE entry. Its other fields carry no meaning until the next issue fills them (R84, R111). -/
def OrtEntry.blank : OrtEntry where
  state := .free
  op := .write
  urgent := false
  address := 0
  length := 0
  localAddress := 0
  cookie := 0
  compareValue := none
  newValue := none
  target := none
  busyRetries := 0
  corruptResends := 0
  buffer := []
  endingMark := false
  result := none
  oldValue := none
  swapped := none

/-- The Outstanding Request Table: the sixteen entries, and the tags of the entries not FREE in the
order they were issued (the issue positions of R90). -/
structure Ort where
  entries : Vector OrtEntry 16
  issueOrder : List Tag
  deriving DecidableEq, Repr

/-! ### Completion Unit (R117, R120) and Notify Mailbox (R125, R127) -/

/-- A completion record (R117). -/
structure CompletionRecord where
  cookie : BitVec 16
  op : Op
  status : Status
  target : Option StationNo
  oldValue : Option Word4
  swapped : Option Bool
  busyRetries : Nat
  corruptResends : Nat
  urgent : Bool
  deriving DecidableEq, Repr

/-- The Completion Unit: the completion queue and the retire list. -/
structure CompletionUnit where
  queue : List CompletionRecord
  retire : List Tag
  deriving DecidableEq, Repr

/-- A notify record (R125). -/
structure NotifyRecord where
  source : StationNo
  window : WindowIdx
  wordOffset : Nat
  /-- The data of the write: 4 bytes in ascending address order. -/
  value : List Byte
  acked : Bool
  deriving DecidableEq, Repr

/-- The Notify Mailbox: its records and the notify reservation. -/
structure NotifyMailbox where
  records : List NotifyRecord
  reserved : Nat
  deriving DecidableEq, Repr

/-! ### Memory Port (R130) -/

/-- Who asked for a memory operation (R131). -/
inductive Requester where
  | target
  | fetch (t : Tag)
  | store (t : Tag)
  deriving DecidableEq, Repr

/-- What a memory operation does (R131, R136). -/
inductive MemKind where
  | read
  | write (data : List Byte)
  | swap (compareValue newValue : Word4)
  deriving DecidableEq, Repr

/-- The memory operation in flight (R130). A word access of it is always under way: the one after the
`completed` ones. -/
structure MemOp where
  requester : Requester
  kind : MemKind
  /-- First local byte address. -/
  address : Nat
  /-- Bytes covered. -/
  length : Nat
  /-- Word accesses completed so far. -/
  completed : Nat
  /-- Bytes read so far. -/
  gathered : List Byte
  /-- R133: the microseconds remaining of the per-word wait timer of the access under way. -/
  wait : Nat
  /-- A target operation whose result is to be discarded (R71). -/
  discard : Bool
  deriving DecidableEq, Repr

/-! ### Event Unit (R142) -/

/-- One flag for each category: pending flags or mask flags (R142). -/
structure Categories where
  completion : Bool
  notify : Bool
  trunk : Bool
  fault : Bool
  deriving DecidableEq, Repr

/-- The TRUNK causes (R143). -/
inductive TrunkCause where
  | presenceChange | windowConflict | syncLost | responseDropped
  deriving DecidableEq, Repr

/-- The TRUNK cause set. -/
structure TrunkCauses where
  presenceChange : Bool
  windowConflict : Bool
  syncLost : Bool
  responseDropped : Bool
  deriving DecidableEq, Repr

/-- The FAULT causes (R143). -/
inductive FaultCause where
  | detached | targetWriteFault | localMemoryFault | loadFault | joinInvalid | joinDuplicate
  deriving DecidableEq, Repr

/-- The FAULT cause set. -/
structure FaultCauses where
  detached : Bool
  targetWriteFault : Bool
  localMemoryFault : Bool
  loadFault : Bool
  joinInvalid : Bool
  joinDuplicate : Bool
  deriving DecidableEq, Repr

/-- The two modes of HINT# (R148, R149). -/
inductive LineMode where
  | level | pulse
  deriving DecidableEq, Repr

/-- The kinds of the last-fault record (R151). -/
inductive FaultKind where
  | duplicateStation | collisionLimit | targetWriteFault | localMemoryFault
  | loadFault | joinInvalid | joinDuplicate
  deriving DecidableEq, Repr

/-- The reasons of a JOIN check (R16, R166). -/
inductive JoinReason where
  | baseAlign | length | trunkRange | localRange | overlap | ctRange
  deriving DecidableEq, Repr

/-- The detail of the last-fault record (R151). -/
inductive FaultDetail where
  | absent
  | station (n : StationNo)
  | window (w : WindowIdx)
  | join (reason : JoinReason) (w : Option WindowIdx)
  deriving DecidableEq, Repr

/-- The last-fault record (R151). -/
structure FaultRecord where
  kind : FaultKind
  station : StationState
  detail : FaultDetail
  deriving DecidableEq, Repr

/-- The nine counters of R152, 16 bits each, in its order. -/
structure Counters where
  corruptFrames : BitVec 16
  collisions : BitVec 16
  lateCompletions : BitVec 16
  malformedCompletions : BitVec 16
  refusalsGiven : BitVec 16
  busyGiven : BitVec 16
  responsesDropped : BitVec 16
  memoryFaults : BitVec 16
  hostFrameErrors : BitVec 16
  deriving DecidableEq, Repr

/-- The Event Unit (R142). -/
structure EventUnit where
  pending : Categories
  /-- A category whose mask flag is set is masked. -/
  mask : Categories
  trunkCauses : TrunkCauses
  faultCauses : FaultCauses
  lineMode : LineMode
  /-- The completion threshold, 1..32. -/
  threshold : Nat
  lastFault : Option FaultRecord
  counters : Counters
  /-- The 1 µs pulse of PULSE mode is being driven on HINT# (R149). -/
  pulsing : Bool
  deriving DecidableEq, Repr

/-! ### Host Port (R154, R155) -/

/-- The nineteen host port commands (R186). -/
inductive HostCode where
  | status | submit | takeCompletion | takeNotify | readEvents | ackEvents | setMask | setThreshold
  | setLineMode | readPresence | readCounters | clearCounters | readFault | configRead | configWrite
  | join | leave | abort | restart
  deriving DecidableEq, Repr

/-- The result codes (R155). -/
inductive ResultCode where
  | done | full | empty | badDescriptor | wrongState | configInvalid | ortBusy
  deriving DecidableEq, Repr

/-- The five states of the frame decoder (R154); OPERANDS with the command named and the operand bytes
received so far. -/
inductive Decoder where
  | idle
  | command
  | operands (code : HostCode) (got : List Byte)
  | response
  | discard
  deriving DecidableEq, Repr

/-- The Host Port: the level of HSEL#, the decoder, the command once taken and its result, the result
byte and response bytes being sent, and how many of their bytes have been completed. -/
structure HostPort where
  /-- HSEL# is low. -/
  selected : Bool
  decoder : Decoder
  taken : Option (HostCode × ResultCode)
  reply : List Byte
  clocked : Nat
  deriving DecidableEq, Repr

/-! ### The station -/

/-- The whole state of the station, with the local memory behind its memory port and the queue of the
commands that wait. -/
structure State where
  /-- The commands that wait, first in, first out (the model's own; log entry 1). -/
  pending : List Instr
  /-- RESET# is asserted: the station is held (R170). -/
  held : Bool
  ctl : Controller
  windows : Vector Window 8
  access : AccessUnit
  presence : PresenceMonitor
  tif : Tif
  target : TargetEngine
  issue : IssueEngine
  ort : Ort
  completion : CompletionUnit
  mailbox : NotifyMailbox
  /-- The operation in flight on the memory port; absent when the port is idle (R130). -/
  port : Option MemOp
  events : EventUnit
  host : HostPort
  /-- The local memory (R132), in the canonical form of `Memory.wf`. -/
  localMem : List Host.Cell
  /-- The model's own: how many free values have been drawn (log entries 2 and 3). -/
  freeIndex : Nat
  deriving DecidableEq, Repr

/-! ### Reasons a step can stop -/

/-- Why a step stops with a fault. -/
inductive Fault where
  /-- Raised by WORD_ACCESS_COMPLETE when the word lies outside local memory (word address above 131071,
  R132): the spec gives such an access no meaning, and no station whose window table passed the JOIN
  checks makes one. Safe: the model stops. -/
  | noSuchLocalWord
  deriving DecidableEq, Repr

/-- Why a step is refused. -/
inductive Refusal where
  /-- Raised by exec for a command that has no meaning yet; no arm raises it. Safe: the model stops. -/
  | notModelled (mnemonic : String)
  deriving DecidableEq, Repr

/-! ### The state right after reset -/

/-- The default configuration of a window entry (R3). -/
def WindowConfig.default : WindowConfig where
  enabled := false
  kind := .memory
  trunkBase := 0
  length := 256
  localBase := 0
  readRight := false
  writeRight := false
  allowed := 0

/-- A window entry with this configuration, counts 0 and last refusal absent (R3). -/
def Window.fresh (c : WindowConfig) : Window := ⟨c, 0, 0, none⟩

/-- No category. -/
def Categories.none : Categories := ⟨false, false, false, false⟩

/-- All four categories. -/
def Categories.all : Categories := ⟨true, true, true, true⟩

/-- All nine counters at 0. -/
def Counters.zero : Counters := ⟨0, 0, 0, 0, 0, 0, 0, 0, 0⟩

/-- The Event Unit after a reset, with this last-fault record (R142). -/
def EventUnit.reset (lastFault : Option FaultRecord) : EventUnit where
  pending := Categories.none
  mask := Categories.all
  trunkCauses := ⟨false, false, false, false⟩
  faultCauses := ⟨false, false, false, false, false, false⟩
  lineMode := .level
  threshold := 1
  lastFault := lastFault
  counters := Counters.zero
  pulsing := false

/-- The station right after a pin reset, at the release of RESET# (R170): LOADING, every block at its
pin-reset values. The working configuration and the load result, which the loading replaces (R169), the
presence entry of the own number, HSEL# and the local memory have values that log entries 4 and 6 name. -/
def State.reset : State where
  pending := []
  held := false
  ctl :=
    { station := .loading, number := 0, ct := 1024, waitLimit := 8, loadResult := .absent,
      joinHoldoff := none }
  windows := Vector.replicate 8 (Window.fresh WindowConfig.default)
  access := { rotation := 15, sync := .lost, collisions := 0 }
  presence :=
    { table := Vector.replicate 16 .absent, beaconTimer := .stopped, beaconQueued := false }
  tif := Tif.busyWith none
  target := { service := [], responses := [], nonPosted := 0 }
  issue := { requestQueue := [], unsent := [] }
  ort := { entries := Vector.replicate 16 OrtEntry.blank, issueOrder := [] }
  completion := { queue := [], retire := [] }
  mailbox := { records := [], reserved := 0 }
  port := none
  events := EventUnit.reset none
  host := { selected := false, decoder := .idle, taken := none, reply := [], clocked := 0 }
  localMem := []
  freeIndex := 0

end Sys2Proof.Machine
end

