-- ==== Sys2Proof/Machine/Figures.lean ====
section
/-! DEFINITION. The figures of the manual, each from the chapter that owns it, the explicit lists of the
small index ranges, and saturating counting. Times are in ticks of 64 µs. -/

namespace Sys2Proof.Machine

/-- R44: the beacon interval. -/
def beaconInterval : Nat := 256
/-- R46: the presence timeout. -/
def presenceTicks : Nat := 768
/-- R53: the response lifetime. -/
def lifetimeTicks : Nat := 512
/-- R177: the join holdoff. -/
def joinHoldoffTicks : Nat := 1024
/-- R100, R166: the least CT that JOIN takes. -/
def ctMin : Nat := 640
/-- R100, R166: the greatest CT that JOIN takes. -/
def ctMax : Nat := 4095
/-- R174: CT without a LOADED image. -/
def ctDefault : BitVec 12 := 1024
/-- R174: the memory wait limit, in µs, without a valid one in a LOADED image. -/
def waitLimitDefault : BitVec 8 := 8
/-- R77: descriptors the request queue holds. -/
def requestQueueSize : Nat := 32
/-- R119: records the completion queue holds. -/
def completionQueueSize : Nat := 32
/-- R52, R53: service entries, and response reservations. -/
def serviceQueueSize : Nat := 8
/-- R126: records the notify mailbox holds. -/
def mailboxSize : Nat := 16
/-- R96: BUSY outcomes that lead to a retry. -/
def busyRetryLimit : Nat := 8
/-- R66, R99: CORRUPT outcomes that lead to a resend. -/
def corruptResendLimit : Nat := 3
/-- R42: the consecutive collisions that detach the station. -/
def collisionLimit : Nat := 4
/-- R18: the most bytes a request covers. -/
def payloadMax : Nat := 64
/-- R131, R132: local byte addresses are below this. -/
def localMemorySize : Nat := 262144
/-- R8, R16, R76: trunk addresses are below this. -/
def trunkSpaceSize : Nat := 4294967296
/-- R37: contention slots in a round. -/
def roundSlots : Nat := 48
/-- R173: bytes of the configuration image. -/
def imageSize : Nat := 112

/-- The station numbers in order. -/
def allStations : List StationNo := [0, 1, 2, 3, 4, 5, 6, 7, 8, 9, 10, 11, 12, 13, 14, 15]
/-- The tags in order. -/
def allTags : List Tag := [0, 1, 2, 3, 4, 5, 6, 7, 8, 9, 10, 11, 12, 13, 14, 15]
/-- The window indices in order. -/
def allWindows : List WindowIdx := [0, 1, 2, 3, 4, 5, 6, 7]

/-- Adds `k` to a counter that stays at its greatest value once it has reached it (Conventions; R14,
R15, R152). -/
def satAdd {w : Nat} (c : BitVec w) (k : Nat) : BitVec w :=
  BitVec.ofNat w (min (2 ^ w - 1) (c.toNat + k))

/-- One count of a saturating counter. -/
def satInc {w : Nat} (c : BitVec w) : BitVec w := satAdd c 1

end Sys2Proof.Machine
end

