-- ==== Sys2Proof/Machine/Flags.lean ====
section
/-! DEFINITION. The flags of the Event Unit: pending categories and masks, cause sets, HINT#, the
last-fault record and the counters (chapter 9). -/

namespace Sys2Proof.Machine

/-- R149: whether a pulse is being driven after one category has become pending: in PULSE mode an
unmasked category that was not pending gains a pulse, and a pulse in progress stands for it. -/
def EventUnit.pulseOnGain (e : EventUnit) (masked wasPending : Bool) : Bool :=
  e.pulsing || (decide (e.lineMode = .pulse) && !masked && !wasPending)

/-- The COMPLETION category becomes pending (R144). -/
def EventUnit.pendCompletion (e : EventUnit) : EventUnit :=
  { e with
    pending := { e.pending with completion := true }
    pulsing := e.pulseOnGain e.mask.completion e.pending.completion }

/-- The NOTIFY category becomes pending (R145). -/
def EventUnit.pendNotify (e : EventUnit) : EventUnit :=
  { e with
    pending := { e.pending with notify := true }
    pulsing := e.pulseOnGain e.mask.notify e.pending.notify }

/-- The TRUNK category becomes pending (R143). -/
def EventUnit.pendTrunk (e : EventUnit) : EventUnit :=
  { e with
    pending := { e.pending with trunk := true }
    pulsing := e.pulseOnGain e.mask.trunk e.pending.trunk }

/-- The FAULT category becomes pending (R143). -/
def EventUnit.pendFault (e : EventUnit) : EventUnit :=
  { e with
    pending := { e.pending with fault := true }
    pulsing := e.pulseOnGain e.mask.fault e.pending.fault }

/-- Sets one flag of the TRUNK cause set. -/
def TrunkCauses.add (c : TrunkCauses) : TrunkCause → TrunkCauses
  | .presenceChange => { c with presenceChange := true }
  | .windowConflict => { c with windowConflict := true }
  | .syncLost => { c with syncLost := true }
  | .responseDropped => { c with responseDropped := true }

/-- Sets one flag of the FAULT cause set. -/
def FaultCauses.add (c : FaultCauses) : FaultCause → FaultCauses
  | .detached => { c with detached := true }
  | .targetWriteFault => { c with targetWriteFault := true }
  | .localMemoryFault => { c with localMemoryFault := true }
  | .loadFault => { c with loadFault := true }
  | .joinInvalid => { c with joinInvalid := true }
  | .joinDuplicate => { c with joinDuplicate := true }

/-- R143: a TRUNK cause is raised. -/
def EventUnit.raiseTrunk (e : EventUnit) (c : TrunkCause) : EventUnit :=
  { e.pendTrunk with trunkCauses := e.trunkCauses.add c }

/-- R143, R151: a FAULT cause is raised, and overwrites the last-fault record. -/
def EventUnit.raiseFault (e : EventUnit) (c : FaultCause) (r : FaultRecord) : EventUnit :=
  { e.pendFault with faultCauses := e.faultCauses.add c, lastFault := some r }

/-- R144: a record was placed, after which the completion queue holds `count` records. -/
def EventUnit.recordPlaced (e : EventUnit) (count : Nat) (urgent : Bool) : EventUnit :=
  if e.threshold ≤ count ∨ urgent = true then e.pendCompletion else e

/-- The categories named by a set (R186): bit 0 COMPLETION, bit 1 NOTIFY, bit 2 TRUNK, bit 3 FAULT; the
upper bits are ignored. -/
def Categories.ofByte (b : Byte) : Categories where
  completion := b.getLsbD 0
  notify := b.getLsbD 1
  trunk := b.getLsbD 2
  fault := b.getLsbD 3

/-- R146: the TRUNK cause set after an acknowledgement. -/
def TrunkCauses.clear (named : Bool) (c : TrunkCauses) : TrunkCauses :=
  if named then ⟨false, false, false, false⟩ else c

/-- R146: the FAULT cause set after an acknowledgement. -/
def FaultCauses.clear (named : Bool) (c : FaultCauses) : FaultCauses :=
  if named then ⟨false, false, false, false, false, false⟩ else c

/-- R146: ACK_EVENTS. `again` says for COMPLETION whether the queue holds records enough or an urgent
one, and `records` for NOTIFY whether the mailbox holds any record. R149: a named unmasked COMPLETION or
NOTIFY that is pending after the command gains a pulse. -/
def EventUnit.ack (e : EventUnit) (named : Categories) (again records : Bool) : EventUnit :=
  { e with
    pending :=
      { completion := if named.completion then again else e.pending.completion
        notify := if named.notify then records else e.pending.notify
        trunk := e.pending.trunk && !named.trunk
        fault := e.pending.fault && !named.fault }
    trunkCauses := e.trunkCauses.clear named.trunk
    faultCauses := e.faultCauses.clear named.fault
    pulsing :=
      e.pulsing || (decide (e.lineMode = .pulse)
        && ((named.completion && again && !e.mask.completion)
          || (named.notify && records && !e.mask.notify))) }

/-- R147, R149: SET_MASK replaces the four mask flags; a pending category that it unmasks gains a pulse. -/
def EventUnit.setMask (e : EventUnit) (m : Categories) : EventUnit :=
  { e with
    mask := m
    pulsing :=
      e.pulsing || (decide (e.lineMode = .pulse)
        && ((e.pending.completion && e.mask.completion && !m.completion)
          || (e.pending.notify && e.mask.notify && !m.notify)
          || (e.pending.trunk && e.mask.trunk && !m.trunk)
          || (e.pending.fault && e.mask.fault && !m.fault))) }

/-- R150: the line mode is taken at once; a change ends a pulse in progress. -/
def EventUnit.setLineMode (e : EventUnit) (m : LineMode) : EventUnit :=
  if e.lineMode = m then e else { e with lineMode := m, pulsing := false }

/-- R148: the active set, the categories that are pending and unmasked, is non-empty. -/
def EventUnit.active (e : EventUnit) : Bool :=
  (e.pending.completion && !e.mask.completion) || (e.pending.notify && !e.mask.notify)
    || (e.pending.trunk && !e.mask.trunk) || (e.pending.fault && !e.mask.fault)

/-- The level of HINT# (R148, R149, R170): whether the station asserts it. -/
def State.hintAsserted (s : State) : Bool :=
  !s.held && (match s.events.lineMode with
    | .level => s.events.active
    | .pulse => s.events.pulsing)

/-- R153: CLEAR_COUNTERS. Bit i names the counter in place i of the list of R152 (R186). -/
def Counters.clear (c : Counters) (named : BitVec 16) : Counters where
  corruptFrames := if named.getLsbD 0 then 0 else c.corruptFrames
  collisions := if named.getLsbD 1 then 0 else c.collisions
  lateCompletions := if named.getLsbD 2 then 0 else c.lateCompletions
  malformedCompletions := if named.getLsbD 3 then 0 else c.malformedCompletions
  refusalsGiven := if named.getLsbD 4 then 0 else c.refusalsGiven
  busyGiven := if named.getLsbD 5 then 0 else c.busyGiven
  responsesDropped := if named.getLsbD 6 then 0 else c.responsesDropped
  memoryFaults := if named.getLsbD 7 then 0 else c.memoryFaults
  hostFrameErrors := if named.getLsbD 8 then 0 else c.hostFrameErrors

/-! The increments of R152, one for each counter. -/

def EventUnit.countCorruptFrame (e : EventUnit) : EventUnit :=
  { e with counters := { e.counters with corruptFrames := satInc e.counters.corruptFrames } }
def EventUnit.countCollision (e : EventUnit) : EventUnit :=
  { e with counters := { e.counters with collisions := satInc e.counters.collisions } }
def EventUnit.countLate (e : EventUnit) : EventUnit :=
  { e with counters := { e.counters with lateCompletions := satInc e.counters.lateCompletions } }
def EventUnit.countMalformed (e : EventUnit) : EventUnit :=
  { e with
    counters := { e.counters with malformedCompletions := satInc e.counters.malformedCompletions } }
def EventUnit.countRefusal (e : EventUnit) : EventUnit :=
  { e with counters := { e.counters with refusalsGiven := satInc e.counters.refusalsGiven } }
def EventUnit.countBusy (e : EventUnit) : EventUnit :=
  { e with counters := { e.counters with busyGiven := satInc e.counters.busyGiven } }
def EventUnit.countMemoryFault (e : EventUnit) : EventUnit :=
  { e with counters := { e.counters with memoryFaults := satInc e.counters.memoryFaults } }
def EventUnit.countHostFrameError (e : EventUnit) : EventUnit :=
  { e with counters := { e.counters with hostFrameErrors := satInc e.counters.hostFrameErrors } }

/-- R66, R67, R69: `k` responses are dropped, each counted, each raising RESPONSE_DROPPED. -/
def EventUnit.responsesDropped (e : EventUnit) (k : Nat) : EventUnit :=
  if k = 0 then e
  else
    { e.raiseTrunk .responseDropped with
      counters := { e.counters with responsesDropped := satAdd e.counters.responsesDropped k } }

end Sys2Proof.Machine
end

