-- ==== Sys2Proof/Machine/Operands.lean ====
section
/-! DEFINITION. The host port's codes and layouts (R186): operands read from bytes, responses laid out in
bytes, and the configuration image (R187, R188). Multi-byte numbers go most significant byte first. -/

namespace Sys2Proof.Machine

/-! ### Numbers and bytes -/

/-- A 16-bit number, most significant byte first. -/
def bytes2 (v : BitVec 16) : List Byte := [v.extractLsb' 8 8, v.extractLsb' 0 8]
/-- A 24-bit number, most significant byte first. -/
def bytes3 (v : BitVec 24) : List Byte := [v.extractLsb' 16 8, v.extractLsb' 8 8, v.extractLsb' 0 8]
/-- A 32-bit number, most significant byte first. -/
def bytes4 (v : BitVec 32) : List Byte :=
  [v.extractLsb' 24 8, v.extractLsb' 16 8, v.extractLsb' 8 8, v.extractLsb' 0 8]

/-- The byte at position `i`; a position past the end reads 0 (no layout reads one). -/
def byteAt (bs : List Byte) (i : Nat) : Byte := bs.getD i 0
/-- The 16-bit number at position `i`. -/
def num2At (bs : List Byte) (i : Nat) : BitVec 16 := byteAt bs i ++ byteAt bs (i + 1)
/-- The 24-bit number at position `i`. -/
def num3At (bs : List Byte) (i : Nat) : BitVec 24 :=
  byteAt bs i ++ byteAt bs (i + 1) ++ byteAt bs (i + 2)
/-- The 32-bit number at position `i`. -/
def num4At (bs : List Byte) (i : Nat) : BitVec 32 :=
  byteAt bs i ++ byteAt bs (i + 1) ++ byteAt bs (i + 2) ++ byteAt bs (i + 3)
/-- The four bytes from position `i`, in list order. -/
def word4At (bs : List Byte) (i : Nat) : Word4 :=
  #v[byteAt bs i, byteAt bs (i + 1), byteAt bs (i + 2), byteAt bs (i + 3)]

/-! ### Codes -/

/-- R186: the filler byte. -/
def filler : Byte := 0xFF

/-- R186: the result codes. -/
def ResultCode.byte : ResultCode → Byte
  | .done => 0x00 | .full => 0x01 | .empty => 0x02 | .badDescriptor => 0x03
  | .wrongState => 0x04 | .configInvalid => 0x05 | .ortBusy => 0x06

/-- R186: the command codes. -/
def HostCode.byte : HostCode → Byte
  | .status => 0x01 | .submit => 0x02 | .takeCompletion => 0x03 | .takeNotify => 0x04
  | .readEvents => 0x05 | .ackEvents => 0x06 | .setMask => 0x07 | .setThreshold => 0x08
  | .setLineMode => 0x09 | .readPresence => 0x0A | .readCounters => 0x0B | .clearCounters => 0x0C
  | .readFault => 0x0D | .configRead => 0x0E | .configWrite => 0x0F | .join => 0x10
  | .leave => 0x11 | .abort => 0x12 | .restart => 0x13

/-- The nineteen host port commands, in the order of their codes. -/
def allHostCodes : List HostCode :=
  [.status, .submit, .takeCompletion, .takeNotify, .readEvents, .ackEvents, .setMask, .setThreshold,
   .setLineMode, .readPresence, .readCounters, .clearCounters, .readFault, .configRead, .configWrite,
   .join, .leave, .abort, .restart]

/-- R186: the command that a code names; every code not listed names none. -/
def HostCode.ofByte (b : Byte) : Option HostCode := allHostCodes.find? (fun c => decide (c.byte = b))

/-- R154, R186: how many operand bytes the command has, given the first of them, which for CONFIG_READ
and CONFIG_WRITE is the item selector. Before a selector is received the count is not known; it is at
least 1. A selector that names no item makes the command taken at that byte (R164, R165). -/
def HostCode.operandCount (c : HostCode) (first : Option Byte) : Nat :=
  match c with
  | .submit => 19
  | .ackEvents => 1
  | .setMask => 1
  | .setThreshold => 1
  | .setLineMode => 1
  | .clearCounters => 2
  | .configRead => if first = some 0x04 then 2 else 1
  | .configWrite =>
    if first = some 0x01 then 2
    else if first = some 0x02 then 3
    else if first = some 0x03 then 2
    else if first = some 0x04 then 15
    else 1
  | _ => 0

/-- The operand bytes received are all that the command has. -/
def HostCode.operandsWhole (c : HostCode) (bs : List Byte) : Bool :=
  decide (bs.length = c.operandCount bs.head?)

/-! ### Operands -/

/-- The 19 bytes of a SUBMIT descriptor. -/
def RawDescriptor.bytes (d : RawDescriptor) : List Byte :=
  d.flags :: bytes4 d.address ++ d.length :: bytes3 d.localAddress ++ bytes2 d.cookie
    ++ d.compareValue.toList ++ d.newValue.toList

/-- A SUBMIT descriptor read from its 19 bytes. -/
def RawDescriptor.ofBytes (bs : List Byte) : RawDescriptor where
  flags := byteAt bs 0
  address := num4At bs 1
  length := byteAt bs 5
  localAddress := num3At bs 6
  cookie := num2At bs 9
  compareValue := word4At bs 11
  newValue := word4At bs 15

/-- The op that the code in bits 0–2 names, if it names one. -/
def RawDescriptor.op (d : RawDescriptor) : Option Op :=
  match (d.flags &&& 0x07).toNat with
  | 1 => some .write
  | 2 => some .writeAcked
  | 3 => some .read
  | 4 => some .swap
  | _ => none

/-- R76: the conditions on a descriptor of this op; the sums are formed without wrap-around. -/
def RawDescriptor.validFor (d : RawDescriptor) (op : Op) : Bool :=
  decide (1 ≤ d.length.toNat) && decide (d.length.toNat ≤ payloadMax)
    && (decide (op ≠ .swap) || (decide (d.length.toNat = 4) && decide (d.address.toNat % 4 = 0)))
    && decide (d.address.toNat + d.length.toNat ≤ trunkSpaceSize)
    && decide (d.localAddress.toNat + d.length.toNat ≤ localMemorySize)

/-- R73, R76: the request descriptor, when it is valid. For ops other than SWAP the compare and new value
bytes are ignored (R162). -/
def RawDescriptor.valid? (d : RawDescriptor) : Option Descriptor :=
  match d.op with
  | none => none
  | some op =>
    if d.validFor op then
      some
        { op := op
          fence := d.flags.getLsbD 6
          urgent := d.flags.getLsbD 7
          address := d.address
          length := d.length.toNat
          localAddress := d.localAddress.toNat
          cookie := d.cookie
          compareValue := if op = .swap then some d.compareValue else none
          newValue := if op = .swap then some d.newValue else none }
    else none

/-- The 13 configuration bytes of a window entry. -/
def RawWindow.bytes (w : RawWindow) : List Byte :=
  w.flags :: bytes4 w.trunkBase ++ bytes3 w.length ++ bytes3 w.localBase ++ bytes2 w.allowed

/-- A window entry read from its 13 configuration bytes at position `i`. -/
def RawWindow.ofBytesAt (bs : List Byte) (i : Nat) : RawWindow where
  flags := byteAt bs i
  trunkBase := num4At bs (i + 1)
  length := num3At bs (i + 5)
  localBase := num3At bs (i + 8)
  allowed := num2At bs (i + 11)

/-- The kind that bits 4–5 name: 00 MEMORY, 01 NOTIFY, 10 and 11 name neither. -/
def RawWindow.kind (w : RawWindow) : Option WindowKind :=
  if w.flags.getLsbD 5 then none else if w.flags.getLsbD 4 then some .notify else some .memory

/-- The configuration fields of the entry, with this kind. -/
def RawWindow.config (w : RawWindow) (kind : WindowKind) : WindowConfig where
  enabled := w.flags.getLsbD 7
  kind := kind
  trunkBase := w.trunkBase
  length := w.length
  localBase := w.localBase
  readRight := w.flags.getLsbD 1
  writeRight := w.flags.getLsbD 0
  allowed := w.allowed

/-- R188: an entry of a LOADED image; a kind code naming neither is loaded as MEMORY. -/
def RawWindow.imageConfig (w : RawWindow) : WindowConfig := w.config (w.kind.getD .memory)

/-- The operand bytes of CONFIG_READ. -/
def ConfigItem.bytes : ConfigItem → List Byte
  | .number => [0x01]
  | .ct => [0x02]
  | .waitLimit => [0x03]
  | .window index => [0x04, index]
  | .noItem sel => [sel]

/-- CONFIG_READ's operand read from its bytes. -/
def ConfigItem.ofBytes (bs : List Byte) : ConfigItem :=
  let sel := byteAt bs 0
  if sel = 0x01 then .number
  else if sel = 0x02 then .ct
  else if sel = 0x03 then .waitLimit
  else if sel = 0x04 then .window (byteAt bs 1)
  else .noItem sel

/-- The operand bytes of CONFIG_WRITE. -/
def ConfigValue.bytes : ConfigValue → List Byte
  | .number v => [0x01, v]
  | .ct v => 0x02 :: bytes2 v
  | .waitLimit v => [0x03, v]
  | .window index w => 0x04 :: index :: w.bytes
  | .noItem sel => [sel]

/-- CONFIG_WRITE's operand read from its bytes. -/
def ConfigValue.ofBytes (bs : List Byte) : ConfigValue :=
  let sel := byteAt bs 0
  if sel = 0x01 then .number (byteAt bs 1)
  else if sel = 0x02 then .ct (num2At bs 1)
  else if sel = 0x03 then .waitLimit (byteAt bs 1)
  else if sel = 0x04 then .window (byteAt bs 1) (RawWindow.ofBytesAt bs 2)
  else .noItem sel

/-- The window that an index byte names, if it lies in 0..7. -/
def windowOfByte (b : Byte) : Option WindowIdx :=
  if h : b.toNat < 8 then some ⟨b.toNat, h⟩ else none

/-! ### Responses -/

/-- A response byte: the bits that the layout states, and the mask of those it leaves open, which are
free (log entry 2). `bits` is 0 where `loose` is 1. -/
structure OutByte where
  bits : Byte
  loose : Byte
  deriving DecidableEq, Repr

/-- A byte all of whose bits are stated. -/
def OutByte.exactly (b : Byte) : OutByte := ⟨b, 0⟩
/-- A byte that carries no meaning. -/
def OutByte.meaningless : OutByte := ⟨0, 0xFF⟩

/-- The bytes clocked out for a response, with the `k`-th free bytes in its open bits, from position `pos`. -/
def outBytes (k : Nat) : Nat → List OutByte → List Byte
  | _, [] => []
  | pos, b :: rest => (b.bits ||| (Config.freeByte k pos &&& b.loose)) :: outBytes k (pos + 1) rest

/-- Filler in place of a response. -/
def fillers (n : Nat) : List Byte := List.replicate n filler

/-- A Bool as bit `i` of a byte. -/
def bitAt (b : Bool) (i : Nat) : Byte := if b then (1 : Byte) <<< i else 0

/-- A count, a number or an index as a byte. -/
def natByte (n : Nat) : Byte := BitVec.ofNat 8 n

/-- R186: a set of categories in bits 0–3. -/
def Categories.byte (c : Categories) : Byte :=
  bitAt c.completion 0 ||| bitAt c.notify 1 ||| bitAt c.trunk 2 ||| bitAt c.fault 3

/-- R186: the station state in STATUS and READ_FAULT. -/
def StationState.byte : StationState → Byte
  | .loading => 0 | .config => 1 | .joining => 2 | .online => 3 | .draining => 4 | .detached => 5

/-- R186: the load result in STATUS. -/
def LoadResult.byte : LoadResult → Byte
  | .absent => 0 | .blank => 1 | .corrupt => 2 | .loaded => 3

/-- R186: the sync state in STATUS. -/
def Sync.byte : Sync → Byte
  | .lost => 0 | .inSync => 1

/-- R159: the count of ORT entries not FREE. -/
def State.nonFree (s : State) : Nat :=
  (allTags.filter (fun t => decide ((s.ort.entries[t]).state ≠ .free))).length

/-- R159, R186: the response of STATUS. -/
def statusLayout (s : State) : List OutByte :=
  [ .exactly s.ctl.station.byte, .exactly s.ctl.loadResult.byte, .exactly s.access.sync.byte,
    .exactly (natByte s.issue.requestQueue.length), .exactly (natByte s.nonFree),
    .exactly (natByte s.completion.queue.length), .exactly (natByte s.completion.retire.length),
    .exactly (natByte s.mailbox.records.length), ⟨s.events.pending.byte, 0xF0⟩ ]

/-- R186: the op code of a record or descriptor. -/
def Op.byte : Op → Byte
  | .write => 1 | .writeAcked => 2 | .read => 3 | .swap => 4

/-- R186: the status code of a completion record. -/
def Status.byte : Status → Byte
  | .ok => 0 | .denied => 1 | .unclaimed => 2 | .conflict => 3 | .busyExhausted => 4
  | .corruptExhausted => 5 | .timeout => 6 | .targetLost => 7 | .remoteFault => 8 | .localFault => 9
  | .aborted => 10

/-- R186: a completion record. The target byte and the old value are meaningless when absent, and so is
the swapped flag when bit 5 says it is absent; bit 3 of byte 1 is not stated. -/
def CompletionRecord.layout (r : CompletionRecord) : List OutByte :=
  [ .exactly r.status.byte,
    ⟨r.op.byte ||| bitAt r.target.isSome 4 ||| bitAt r.oldValue.isSome 5
        ||| bitAt (r.oldValue.isSome && r.swapped == some true) 6 ||| bitAt r.urgent 7,
      if r.oldValue.isSome then 0x08 else 0x48⟩,
    (match r.target with
      | some n => .exactly (natByte n.val)
      | none => .meaningless),
    .exactly (natByte (16 * r.busyRetries + r.corruptResends)) ]
  ++ (bytes2 r.cookie).map .exactly
  ++ (match r.oldValue with
      | some v => v.toList.map .exactly
      | none => List.replicate 4 .meaningless)

/-- R186: a notify record. Every bit of it is stated. -/
def NotifyRecord.bytes (r : NotifyRecord) : List Byte :=
  (bitAt r.acked 7 ||| natByte (16 * r.window.val + r.source.val))
    :: (bytes2 (BitVec.ofNat 16 r.wordOffset) ++ r.value)

/-- R186: the response of READ_EVENTS. -/
def eventsLayout (e : EventUnit) : List OutByte :=
  [ .exactly (e.pending.byte ||| (e.mask.byte <<< 4)),
    ⟨bitAt e.trunkCauses.presenceChange 0 ||| bitAt e.trunkCauses.windowConflict 1
        ||| bitAt e.trunkCauses.syncLost 2 ||| bitAt e.trunkCauses.responseDropped 3, 0xF0⟩,
    ⟨bitAt e.faultCauses.detached 0 ||| bitAt e.faultCauses.targetWriteFault 1
        ||| bitAt e.faultCauses.localMemoryFault 2 ||| bitAt e.faultCauses.loadFault 3
        ||| bitAt e.faultCauses.joinInvalid 4 ||| bitAt e.faultCauses.joinDuplicate 5, 0xC0⟩,
    ⟨(natByte e.threshold &&& 0x3F) ||| bitAt (e.lineMode == .pulse) 7, 0x40⟩ ]

/-- R186: the two-bit code of a presence entry. -/
def Presence.code : Presence → Nat
  | .absent => 0 | .present _ => 1 | .self => 2

/-- R186: four presence entries in one byte, the first in the top two bits. -/
def presenceByte (p : Vector Presence 16) (a b c d : StationNo) : Byte :=
  natByte (64 * (p[a]).code + 16 * (p[b]).code + 4 * (p[c]).code + (p[d]).code)

/-- R160, R186: the response of READ_PRESENCE. -/
def presenceBytes (p : Vector Presence 16) : List Byte :=
  [ presenceByte p 0 1 2 3, presenceByte p 4 5 6 7, presenceByte p 8 9 10 11,
    presenceByte p 12 13 14 15 ]

/-- The nine counters in the order of R152. -/
def Counters.list (c : Counters) : List (BitVec 16) :=
  [c.corruptFrames, c.collisions, c.lateCompletions, c.malformedCompletions, c.refusalsGiven,
   c.busyGiven, c.responsesDropped, c.memoryFaults, c.hostFrameErrors]

/-- R186: the response of READ_COUNTERS. -/
def countersBytes (c : Counters) : List Byte := c.list.flatMap bytes2

/-- R186: the kind in READ_FAULT. -/
def FaultKind.byte : FaultKind → Byte
  | .duplicateStation => 1 | .collisionLimit => 2 | .targetWriteFault => 3 | .localMemoryFault => 4
  | .loadFault => 5 | .joinInvalid => 6 | .joinDuplicate => 7

/-- R186: the JOIN reasons. -/
def JoinReason.code : JoinReason → Nat
  | .baseAlign => 1 | .length => 2 | .trunkRange => 3 | .localRange => 4 | .overlap => 5 | .ctRange => 6

/-- R186: the detail byte of READ_FAULT, when the detail is present. -/
def FaultDetail.byte? : FaultDetail → Option Byte
  | .absent => none
  | .station n => some (natByte n.val)
  | .window w => some (natByte w.val)
  | .join reason none => some (natByte (16 * reason.code + 15))
  | .join reason (some w) => some (natByte (16 * reason.code + w.val))

/-- R161, R186: the response of READ_FAULT. When the record is absent the fields after the presence flag
carry filler. -/
def faultLayout : Option FaultRecord → List OutByte
  | none => [⟨0, 0xFC⟩, .exactly filler, .exactly filler, .exactly filler]
  | some r =>
    [ ⟨bitAt true 0 ||| bitAt r.detail.byte?.isSome 1, 0xFC⟩, .exactly r.kind.byte,
      .exactly r.station.byte,
      (match r.detail.byte? with
        | some b => .exactly b
        | none => .meaningless) ]

/-- R186: the refusal reasons. -/
def RefusalReason.code : RefusalReason → Nat
  | .range => 1 | .initiator => 2 | .rights => 3 | .notifyForm => 4 | .swapAlign => 5

/-- R186: byte 0 of a window entry; the other bits are ignored when written and not stated when read. -/
def WindowConfig.flagsByte (w : WindowConfig) : OutByte :=
  ⟨bitAt w.enabled 7 ||| bitAt (w.kind == .notify) 4 ||| bitAt w.readRight 1 ||| bitAt w.writeRight 0,
    0x4C⟩

/-- R186: a window entry as CONFIG_READ returns it: the configuration bytes, then the counts and the last
refusal. -/
def Window.layout (w : Window) : List OutByte :=
  w.config.flagsByte
    :: ((bytes4 w.config.trunkBase ++ bytes3 w.config.length ++ bytes3 w.config.localBase
          ++ bytes2 w.config.allowed ++ [w.conflictCount] ++ bytes2 w.refusalCount).map .exactly
        ++ [match w.lastRefusal with
            | some (reason, src) => .exactly (natByte (128 + 16 * reason.code + src.val))
            | none => ⟨0, 0x7F⟩])

/-- R166, R186: the response of JOIN answered CONFIG_INVALID. -/
def joinFaultBytes (reason : JoinReason) (w : Option WindowIdx) : List Byte :=
  [ natByte reason.code,
    (match w with
      | some i => natByte i.val
      | none => filler) ]

/-! ### The configuration image -/

/-- R188: image byte `i`; bytes that the EEPROM no longer drives read FFh. -/
def imageByte (image : List Byte) (i : Nat) : Byte := image.getD i 0xFF

/-- The 112 bytes that the loader reads. -/
def imageRead (image : List Byte) : List Byte := (List.range imageSize).map (imageByte image)

/-- R188: the sum of all 112 bytes modulo 256. -/
def imageSum (image : List Byte) : Byte := (imageRead image).foldl (· + ·) 0

/-- R173: the load result. -/
def loadResultOf : Option (List Byte) → LoadResult
  | none => .absent
  | some image =>
    if imageByte image 0 ≠ 0xA6 then .blank
    else if imageSum image ≠ 0 then .corrupt
    else .loaded

/-- R187: the image's strap-override flag. -/
def imageOverride (image : List Byte) : Bool := (imageByte image 1).getLsbD 7
/-- R187: the image's auto-join flag. -/
def imageAutoJoin (image : List Byte) : Bool := (imageByte image 1).getLsbD 6
/-- R187: the image's station number. -/
def imageNumber (image : List Byte) : StationNo := Fin.ofNat 16 (imageByte image 1).toNat
/-- R187: the image's CT; the upper four bits are ignored. -/
def imageCt (image : List Byte) : BitVec 12 :=
  (imageByte image 2 ++ imageByte image 3).extractLsb' 0 12
/-- R174: the wait limit the image gives; 8 µs when it lies outside 1..15. -/
def imageWaitLimit (image : List Byte) : BitVec 8 :=
  let v := imageByte image 4
  if 1 ≤ v.toNat ∧ v.toNat ≤ 15 then v else waitLimitDefault
/-- R186: the line mode that a code names. -/
def lineModeOf (code : Byte) : Option LineMode :=
  if code = 0 then some .level else if code = 1 then some .pulse else none
/-- R174: the line mode the image gives; LEVEL when it names neither. -/
def imageLineMode (image : List Byte) : LineMode := (lineModeOf (imageByte image 5)).getD .level
/-- R147, R174: the threshold the image gives; 1 when it lies outside 1..32. -/
def imageThreshold (image : List Byte) : Nat :=
  let v := (imageByte image 6).toNat
  if 1 ≤ v ∧ v ≤ 32 then v else 1
/-- R187: window `w` of the image, from image byte 7 + 13w. -/
def imageWindow (image : List Byte) (w : WindowIdx) : Window :=
  Window.fresh (RawWindow.ofBytesAt (imageRead image) (7 + 13 * w.val)).imageConfig

end Sys2Proof.Machine
end

