-- ==== Sys2Proof/Machine/Memory.lean ====
section
/-! DEFINITION. The local memory (R131, R132): bytes at local addresses 0..262143, as a list of cells in
one canonical form, addresses strictly rising and no cell equal to what an unlisted address reads as. -/

namespace Sys2Proof.Machine

/-- What a byte of local memory that nothing has written reads as. DESIGN CHOICE, unsafe: log entry 6. -/
def Memory.unlisted (_a : Nat) : Byte := 0

/-- The byte at a local address. -/
def Memory.read : List Host.Cell → Nat → Byte
  | [], a => Memory.unlisted a
  | (k, v) :: rest, a => if a = k then v else Memory.read rest a

/-- Writes one byte, keeping the canonical form. -/
def Memory.write : List Host.Cell → Nat → Byte → List Host.Cell
  | [], a, b => if b = Memory.unlisted a then [] else [(a, b)]
  | (k, v) :: rest, a, b =>
    if a < k then
      if b = Memory.unlisted a then (k, v) :: rest else (a, b) :: (k, v) :: rest
    else if a = k then
      if b = Memory.unlisted a then rest else (a, b) :: rest
    else (k, v) :: Memory.write rest a b

/-- The canonical form from address `lo` upward. -/
def Memory.wfFrom : Nat → List Host.Cell → Bool
  | _, [] => true
  | lo, (k, v) :: rest =>
    decide (lo ≤ k) && decide (k < localMemorySize) && decide (v ≠ Memory.unlisted k)
      && Memory.wfFrom (k + 1) rest

/-- The canonical form: addresses strictly rising and inside local memory, no cell equal to what an
unlisted address reads as. -/
def Memory.wf (m : List Host.Cell) : Bool := Memory.wfFrom 0 m

/-- Writes the bytes of a list at these addresses, in order. -/
def Memory.writeAt (m : List Host.Cell) : List (Nat × Byte) → List Host.Cell
  | [] => m
  | (a, b) :: rest => Memory.writeAt (Memory.write m a b) rest

/-- The bytes at these addresses, in order. -/
def Memory.readAt (m : List Host.Cell) (addrs : List Nat) : List Byte := addrs.map (Memory.read m)

/-- R132: the two local addresses of word `w`, low lane first. -/
def wordAddrs (w : Nat) : List Nat := [2 * w, 2 * w + 1]

/-- R132: the lanes that an access to word `w` selects, for the range [address, address + length): the
bytes of the word that lie in the range. -/
def laneAddrs (address length w : Nat) : List Nat :=
  (wordAddrs w).filter (fun a => decide (address ≤ a) && decide (a < address + length))

/-- R132: the number of word accesses of a range. -/
def wordCount (address length : Nat) : Nat := (address + length - 1) / 2 - address / 2 + 1

end Sys2Proof.Machine
end

