-- ==== Sys2Proof/Machine/Windows.lean ====
section
/-! DEFINITION. The Window Decoder (chapter 1): lookup by first byte address, the five access checks, the
validity of the window table, and what is recorded against a window. -/

namespace Sys2Proof.Machine

/-- The Window Decoder's result (R1). -/
inductive Lookup where
  | noMatch
  | refuse (w : WindowIdx) (reason : RefusalReason)
  | permitted (w : WindowIdx) (dest : Dest)
  deriving DecidableEq, Repr

/-- First trunk address past the window (no wrap-around). -/
def WindowConfig.trunkEnd (w : WindowConfig) : Nat := w.trunkBase.toNat + w.length.toNat

/-- R5: the window is enabled and its range holds the address. -/
def WindowConfig.covers (w : WindowConfig) (address : Nat) : Bool :=
  w.enabled && decide (w.trunkBase.toNat ≤ address) && decide (address < w.trunkEnd)

/-- R5: the window of a request. At most one matches while ONLINE; the lowest index is taken. -/
def matchWindow (ws : Vector Window 8) (address : Nat) : Option WindowIdx :=
  allWindows.find? (fun i => (ws[i]).config.covers address)

/-- R10: the window's rights and kind permit the op. -/
def WindowConfig.permitsOp (w : WindowConfig) : Op → Bool
  | .read => w.readRight
  | .write => w.writeRight
  | .writeAcked => w.writeRight
  | .swap => w.readRight && w.writeRight && decide (w.kind = .memory)

/-- R11: the request is a notify write of the permitted form. -/
def notifyForm (op : Op) (address length : Nat) : Bool :=
  (decide (op = .write) || decide (op = .writeAcked)) && decide (length = 4) && decide (address % 4 = 0)

/-- R7: the first of the five checks that fails, if one does. -/
def WindowConfig.firstFailure (w : WindowConfig) (source : StationNo) (op : Op)
    (address length : Nat) : Option RefusalReason :=
  if ¬ (address + length ≤ w.trunkEnd) then some .range
  else if ¬ (w.allowed.getLsbD source.val = true) then some .initiator
  else if ¬ (w.permitsOp op = true) then some .rights
  else if w.kind = .notify ∧ ¬ (notifyForm op address length = true) then some .notifyForm
  else if op = .swap ∧ ¬ (address % 4 = 0) then some .swapAlign
  else none

/-- R13: what a permitted request reaches. -/
def WindowConfig.dest (w : WindowConfig) (address : Nat) : Dest :=
  match w.kind with
  | .memory => .memory (w.localBase.toNat + (address - w.trunkBase.toNat))
  | .notify => .notify ((address - w.trunkBase.toNat) / 4)

/-- The Window Decoder's decision on a clean request frame (R5 to R13). -/
def lookup (ws : Vector Window 8) (f : ReqFrame) : Lookup :=
  match matchWindow ws f.address.toNat with
  | none => .noMatch
  | some w =>
    match (ws[w]).config.firstFailure f.source f.body.op f.address.toNat f.body.length with
    | some reason => .refuse w reason
    | none => .permitted w ((ws[w]).config.dest f.address.toNat)

/-- R14: a refusal recorded against the window. -/
def Window.recordRefusal (w : Window) (reason : RefusalReason) (source : StationNo) : Window :=
  { w with refusalCount := satInc w.refusalCount, lastRefusal := some (reason, source) }

/-- R15: a conflict recorded against the window. -/
def Window.recordConflict (w : Window) : Window :=
  { w with conflictCount := satInc w.conflictCount }

/-- R16: two trunk ranges share an address when each begins before the other ends. -/
def WindowConfig.overlaps (a b : WindowConfig) : Bool :=
  decide (a.trunkBase.toNat < b.trunkEnd) && decide (b.trunkBase.toNat < a.trunkEnd)

/-- R16, condition 5: an enabled window of a lower index overlaps window `i`. -/
def overlapsLower (ws : Vector Window 8) (i : WindowIdx) : Bool :=
  allWindows.any (fun j =>
    decide (j < i) && (ws[j]).config.enabled && (ws[j]).config.overlaps (ws[i]).config)

/-- R16: the first condition that window `i` fails. A disabled window is valid. -/
def windowFault (ws : Vector Window 8) (i : WindowIdx) : Option JoinReason :=
  let w := (ws[i]).config
  if w.enabled = false then none
  else if ¬ (w.trunkBase.toNat % 256 = 0) then some .baseAlign
  else if ¬ (w.length.toNat % 256 = 0 ∧ 256 ≤ w.length.toNat ∧ w.length.toNat ≤ localMemorySize) then
    some .length
  else if ¬ (w.trunkEnd ≤ trunkSpaceSize) then some .trunkRange
  else if w.kind = .memory ∧ ¬ (w.localBase.toNat % 256 = 0
      ∧ w.localBase.toNat + w.length.toNat ≤ localMemorySize) then some .localRange
  else if overlapsLower ws i = true then some .overlap
  else none

/-- R17: the window checks in index order; the first fault found, with its window. -/
def tableFault (ws : Vector Window 8) : Option (JoinReason × WindowIdx) :=
  allWindows.findSome? (fun i => (windowFault ws i).map (fun r => (r, i)))

/-- R17, R166: the JOIN checks of the working configuration, windows first, then CT. -/
def joinFault (ws : Vector Window 8) (ct : BitVec 12) : Option (JoinReason × Option WindowIdx) :=
  match tableFault ws with
  | some (r, i) => some (r, some i)
  | none => if ctMin ≤ ct.toNat ∧ ct.toNat ≤ ctMax then none else some (.ctRange, none)

/-- R3: the counts and last refusal of all eight entries are cleared, the configuration is kept. -/
def clearWindowCounts (ws : Vector Window 8) : Vector Window 8 :=
  ws.map (fun w => Window.fresh w.config)

end Sys2Proof.Machine
end

