-- ==== Sys2Proof/Machine/Ops.lean ====
section
/-! DEFINITION. The operations that several commands share: ORT entries and their lists, what ABORT and
entry to DETACHED do to the blocks, leaving the trunk, the word access of the memory port, and resets. -/

namespace Sys2Proof.Machine

/-! ### Acting on the state -/

/-- R170: while RESET# is asserted the station is held, and nothing else reaches it. -/
def State.unlessHeld (s : State) (f : State → State) : State := if s.held then s else f s

/-- A step of the Event Unit. -/
def State.onEvents (s : State) (f : EventUnit → EventUnit) : State := { s with events := f s.events }

/-- The station is ONLINE or DRAINING: it transmits and drives slot marks (R28). -/
def State.onTrunk (s : State) : Bool :=
  decide (s.ctl.station = .online) || decide (s.ctl.station = .draining)

/-- R23: the receiver is on. -/
def State.receiverOn (s : State) : Bool :=
  decide (s.ctl.station = .joining) || s.onTrunk || decide (s.ctl.station = .detached)

/-- The station has no part in this exchange: it sent no frame of it and drives no mark in its slot. -/
def Exchange.uninvolved (e : Exchange) : Bool := decide (e.sender = none) && decide (e.mark = .none)

/-- The station has no part in any slot that has not ended. -/
def Tif.uninvolved (t : Tif) : Bool :=
  !t.corruptNext && (match t.exchange with
    | none => true
    | some e => e.uninvolved)

/-- R166, R180: the TIF is quiet. No own frame is on the wire or waits for the outcome of its slot (R22),
and no mark of this station waits for its slot or is being driven. -/
def State.tifQuiet (s : State) : Bool := decide (s.tif.tx = none) && s.tif.uninvolved

/-- R22: a frame has ended and this slot, if any, follows it. A slot in which the station has no part is
followed no longer. One in which it has part ends first, and the CORRUPT mark waits behind it (log entry 10). -/
def Tif.frameEnded (t : Tif) (slot : Option Exchange) : Tif :=
  if t.uninvolved then { t with exchange := slot, incoming := false, trunk := .busy }
  else
    { t with
      corruptNext := t.corruptNext || slot.any (fun e => decide (e.mark = .corrupt))
      incoming := false
      trunk := .busy }

/-! ### ORT entries, the unsent list and the retire list -/

/-- The ORT entry of a tag. -/
def State.entry (s : State) (t : Tag) : OrtEntry := s.ort.entries[t]

/-- Replaces the ORT entry of a tag. -/
def State.setEntry (s : State) (t : Tag) (e : OrtEntry) : State :=
  { s with ort := { s.ort with entries := s.ort.entries.set t.val e t.isLt } }

/-- R109: what entering DONE sets in the entry itself. -/
def OrtEntry.finish (e : OrtEntry) (st : Status) : OrtEntry :=
  { e with state := .done, result := some st, endingMark := false }

/-- R109: the entry of tag `t`, with its fields as in `e`, enters DONE with this status: it leaves the
unsent list and joins the tail of the retire list. -/
def State.enterDone (s : State) (t : Tag) (e : OrtEntry) (st : Status) : State :=
  { s with
    ort := { s.ort with entries := s.ort.entries.set t.val (e.finish st) t.isLt }
    issue := { s.issue with unsent := s.issue.unsent.filter (fun u => decide (u ≠ t)) }
    completion := { s.completion with retire := s.completion.retire ++ [t] } }

/-- The entry becomes FREE and gives its issue position up. -/
def State.freeEntry (s : State) (t : Tag) : State :=
  { s with
    ort :=
      { entries := s.ort.entries.set t.val OrtEntry.blank t.isLt
        issueOrder := s.ort.issueOrder.filter (fun u => decide (u ≠ t)) } }

/-- R85, R107: the memory port has granted the fetch or the store of this tag and runs it. -/
def State.granted (s : State) (t : Tag) : Bool :=
  match s.port with
  | none => false
  | some op => decide (op.requester = .fetch t) || decide (op.requester = .store t)

/-- R114: the entry of an ended stay becomes DONE(ABORTED) at once. -/
def OrtEntry.endsAtAbort (e : OrtEntry) (granted : Bool) : Bool :=
  match e.state with
  | .free => false
  | .fetching => !granted
  | .ready => true
  | .hold _ => true
  | .awaiting _ => true
  | .storing => !granted
  | .done => false
  | .stale _ => false

/-- R114: an entry after ABORT or entry to DETACHED; `granted` says that its memory operation is in
flight. -/
def OrtEntry.abort (e : OrtEntry) (granted : Bool) : OrtEntry :=
  match e.state with
  | .free => e
  | .fetching => if granted then { e with endingMark := true } else e.finish .aborted
  | .ready => e.finish .aborted
  | .hold _ => e.finish .aborted
  | .awaiting _ => e.finish .aborted
  | .storing => if granted then { e with endingMark := true } else e.finish .aborted
  | .done => e
  | .stale _ => OrtEntry.blank

/-- The entry is STALE. -/
def OrtEntry.isStale (e : OrtEntry) : Bool :=
  match e.state with
  | .stale _ => true
  | _ => false

/-- R114, R115: every entry is ended as ABORT and entry to DETACHED do; the entries that become DONE join
the retire list in the order of their issue positions, and the unsent list is empty. -/
def State.abortRequests (s : State) : State :=
  { s with
    ort :=
      { entries := Vector.ofFn (fun t => (s.entry t).abort (s.granted t))
        issueOrder := s.ort.issueOrder.filter (fun t => !(s.entry t).isStale) }
    issue := { s.issue with unsent := [] }
    completion :=
      { s.completion with
        retire :=
          s.completion.retire
            ++ s.ort.issueOrder.filter (fun t => (s.entry t).endsAtAbort (s.granted t)) } }

/-- R116: at the end of draining each STALE entry becomes FREE. -/
def State.freeStale (s : State) : State :=
  { s with
    ort :=
      { entries :=
          Vector.ofFn (fun t => if (s.entry t).isStale then OrtEntry.blank else s.entry t)
        issueOrder := s.ort.issueOrder.filter (fun t => !(s.entry t).isStale) } }

/-- The entry awaits a completion from station `st`. -/
def OrtEntry.awaits (e : OrtEntry) (st : StationNo) : Bool :=
  match e.state with
  | .awaiting _ => decide (e.target = some st)
  | _ => false

/-- R106: the notice "station `st` lost" at the ORT: every entry AWAITING it becomes DONE(TARGET_LOST), in
the order of their issue positions. -/
def State.ortStationLost (s : State) (st : StationNo) : State :=
  { s with
    ort :=
      { s.ort with
        entries :=
          Vector.ofFn (fun t =>
            if (s.entry t).awaits st then (s.entry t).finish .targetLost else s.entry t) }
    completion :=
      { s.completion with
        retire :=
          s.completion.retire ++ s.ort.issueOrder.filter (fun t => (s.entry t).awaits st) } }

/-- R116: the ORT is at rest, every entry FREE or STALE. -/
def State.ortAtRest (s : State) : Bool :=
  allTags.all (fun t => decide ((s.entry t).state = .free) || (s.entry t).isStale)

/-- Every ORT entry is FREE. -/
def State.ortFree (s : State) : Bool := allTags.all (fun t => decide ((s.entry t).state = .free))

/-! ### The Target Engine -/

/-- A target memory operation in flight whose result is to be discarded (R71). -/
def MemOp.discardTarget (op : MemOp) : MemOp :=
  if op.requester = .target then { op with discard := true } else op

/-- R71: both queues are emptied, every reservation and notify hold released, the result of a target
operation in flight discarded. -/
def State.emptyTarget (s : State) : State :=
  { s with
    target := { service := [], responses := [], nonPosted := 0 }
    mailbox := { s.mailbox with reserved := 0 }
    port := s.port.map MemOp.discardTarget }

/-- R69: the notice "station `st` lost" at the Target Engine. -/
def State.targetStationLost (s : State) (st : StationNo) : State :=
  let kept := s.target.responses.filter (fun r => decide (r.destination ≠ st))
  let removed := s.target.responses.length - kept.length
  { s with
    target :=
      { s.target with responses := kept, nonPosted := s.target.nonPosted - removed }
    events := s.events.responsesDropped removed }

/-- R66, R67: the response at this place leaves the response queue and its reservation is released. -/
def State.removeResponse (s : State) (i : Nat) : State :=
  { s with
    target :=
      { s.target with
        responses := s.target.responses.eraseIdx i, nonPosted := s.target.nonPosted - 1 } }

/-- R66, R67: the response at this place is dropped, counted, and RESPONSE_DROPPED raised. -/
def State.dropResponse (s : State) (i : Nat) : State :=
  (s.removeResponse i).onEvents (fun e => e.responsesDropped 1)

/-- R65: the response of a service that ended is appended when its reservation is live, and discarded
otherwise. An entry without a tag is a WRITE and has no response. -/
def State.respond (s : State) (e : ServiceEntry) (status : CplStatus) (swapped : Bool)
    (data : List Byte) : State :=
  match e.request.body.tag, e.reservation with
  | some t, .live ticks =>
    { s with
      target :=
        { s.target with
          responses :=
            s.target.responses ++
              [{ destination := e.request.source, tag := t, status := status, swapped := swapped,
                 data := data, lifetime := ticks, resends := 0, onTrunk := false }] } }
  | _, _ => s

/-- The service entry at the head is removed. -/
def State.popService (s : State) : State :=
  { s with target := { s.target with service := s.target.service.tail } }

/-- A target memory operation is in flight (R72). -/
def State.targetInFlight (s : State) : Bool :=
  match s.port with
  | none => false
  | some op => decide (op.requester = .target)

/-- R72: the Target Engine is at rest. -/
def State.targetAtRest (s : State) : Bool :=
  s.target.service.isEmpty && s.target.responses.isEmpty && !s.targetInFlight

/-! ### Access Unit and Presence Monitor -/

/-- R41: sync becomes LOST; a change from IN_SYNC raises SYNC_LOST. -/
def State.loseSync (s : State) : State :=
  { s with
    access := { s.access with sync := .lost }
    events :=
      match s.access.sync with
      | .inSync => s.events.raiseTrunk .syncLost
      | .lost => s.events }

/-- R46: SELF for the own number, ABSENT for the other fifteen. -/
def presenceCleared (own : StationNo) : Vector Presence 16 :=
  Vector.ofFn (fun n => if n = own then .self else .absent)

/-- R45: the beacon queue is emptied and its timer stopped. -/
def State.stopBeacon (s : State) : State :=
  { s with presence := { s.presence with beaconTimer := .stopped, beaconQueued := false } }

/-- R30: a mark decided whose slot has not begun will not be driven; one being driven is held. -/
def State.dropUnbegunMark (s : State) : State :=
  { s with
    tif :=
      { s.tif with
        exchange := s.tif.exchange.map (fun e => if e.begun then e else { e with mark := .none })
        corruptNext := false } }

/-! ### Changes of station state -/

/-- Entry to CONFIG from the trunk, as ABORT, the end of draining and a failed join share it: the
receiver goes off (R23), so a frame passing is not received and an exchange in which the station has no part
is no longer followed, the Access Unit is LOST with a count of 0 (R36), the presence table is SELF and fifteen
ABSENT (R46), the beacon queue is empty and its timer stopped (R45), the join holdoff is stopped (R169). -/
def State.leaveTrunk (s : State) : State :=
  { s with
    ctl := { s.ctl with station := .config, joinHoldoff := none }
    access := { s.access with sync := .lost, collisions := 0 }
    presence :=
      { table := presenceCleared s.ctl.number, beaconTimer := .stopped, beaconQueued := false }
    tif :=
      { s.tif with
        exchange := s.tif.exchange.filter (fun e => !e.uninvolved)
        corruptNext := false
        incoming := false
        trunk := .busy } }

/-- R177: entry to JOINING, by JOIN or by auto-join. The receiver takes the first start delimiter that
follows, and the round is counted from the next idle (R37). -/
def State.enterJoining (s : State) : State :=
  { s with
    ctl := { s.ctl with station := .joining, joinHoldoff := some joinHoldoffTicks }
    windows := clearWindowCounts s.windows
    access := { s.access with sync := .lost, collisions := 0 }
    tif := Tif.busyWith s.tif.tx }

/-- R182: entry to DETACHED with this kind of fault. -/
def State.detach (s : State) (kind : FaultKind) : State :=
  let s1 := s.onEvents (fun e =>
    e.raiseFault .detached ⟨kind, s.ctl.station, .station s.ctl.number⟩)
  let s2 := s1.abortRequests.emptyTarget.stopBeacon.dropUnbegunMark
  { s2 with ctl := { s2.ctl with station := .detached } }

/-- R35, R178: a duplicate seen in JOINING fails the join. -/
def State.failJoin (s : State) : State :=
  (s.onEvents (fun e =>
    e.raiseFault .joinDuplicate ⟨.joinDuplicate, s.ctl.station, .station s.ctl.number⟩)).leaveTrunk

/-- R181: what ABORT does to the blocks; the count of descriptors removed is read before. -/
def State.abortStation (s : State) : State :=
  let s1 := s.abortRequests.emptyTarget.dropUnbegunMark.leaveTrunk
  { s1 with issue := { s1.issue with requestQueue := [] } }

/-- R180: what the end of draining does to the blocks. -/
def State.endDraining (s : State) : State := s.freeStale.leaveTrunk

/-! ### The word access of the memory port (R132, R136) -/

/-- The word of the access under way. A SWAP reads its two words and then writes them. -/
def MemOp.word (op : MemOp) : Nat :=
  op.address / 2 + (match op.kind with
    | .swap _ _ => op.completed % 2
    | _ => op.completed)

/-- The access under way is a write access. -/
def MemOp.writing (op : MemOp) : Bool :=
  match op.kind with
  | .read => false
  | .write _ => true
  | .swap _ _ => decide (2 ≤ op.completed)

/-- The local addresses of the lanes that the access under way selects. -/
def MemOp.lanes (op : MemOp) : List Nat := laneAddrs op.address op.length op.word

/-- The bytes that the operation writes, from its first local address on. -/
def MemOp.data (op : MemOp) : List Byte :=
  match op.kind with
  | .read => []
  | .write d => d
  | .swap _ n => n.toList

/-- R131: byte i of the data goes to local address address + i: the cells of the access under way. -/
def MemOp.cells (op : MemOp) : List (Nat × Byte) :=
  op.lanes.map (fun a => (a, op.data.getD (a - op.address) 0))

/-- R140: local memory after the access under way is cut short: each byte of a write access holds its old
value or the one being written, as the `k`-th free value says; a read access changes nothing. -/
def MemOp.cutMemory (op : MemOp) (k : Nat) (m : List Host.Cell) : List Host.Cell :=
  if op.writing then
    Memory.writeAt m (op.cells.filter (fun c =>
      decide (c.1 < localMemorySize) && !Config.cutKeepsOld k c.1))
  else m

/-! ### Resets (R170, R171) -/

/-- Every block at its pin-reset values, with this last-fault record. The working configuration and the
load result stay until the loading that follows replaces them (R169); the counts of the windows are
cleared (R3); HSEL# is the host's; local memory keeps what has been written to it (R140). -/
def State.resetBlocks (s : State) (lastFault : Option FaultRecord) : State :=
  { State.reset with
    pending := s.pending
    ctl := { s.ctl with station := .loading, joinHoldoff := none }
    windows := clearWindowCounts s.windows
    events := EventUnit.reset lastFault
    host := { State.reset.host with selected := s.host.selected }
    localMem :=
      match s.port with
      | none => s.localMem
      | some op => op.cutMemory s.freeIndex s.localMem
    freeIndex :=
      match s.port with
      | none => s.freeIndex
      | some op => if op.writing then s.freeIndex + 1 else s.freeIndex }

end Sys2Proof.Machine
end

