-- ==== Sys2Proof/WellFormed.lean ====
section
/-! DEFINITION. Which commands have operands of the form the spec gives them. A check stands here only
where the operand's type admits more than the spec does. -/

namespace Sys2Proof.Machine

/-- R18: a request covers 1..64 bytes. -/
def ReqBody.wf (b : ReqBody) : Bool := decide (1 ≤ b.length) && decide (b.length ≤ 64)

/-- R18: a request frame is of this form when its length lies in 1..64. -/
def ReqFrame.wf (f : ReqFrame) : Bool := f.body.wf

/-- R18: a COMPLETION carries 0..64 data bytes. -/
def CplFrame.wf (f : CplFrame) : Bool := decide (f.data.length ≤ 64)

/-- R18: a frame that is not of this form is ill-formed. -/
def Frame.wf : Frame → Bool
  | .request f => f.wf
  | .completion f => f.wf
  | .beacon _ => true

/-- R186: the selectors 01h to 04h name the four configuration items. -/
def namesItem (selector : Byte) : Bool :=
  selector == 1 || selector == 2 || selector == 3 || selector == 4

/-- A selector given as naming no item is none of the four. -/
def ConfigItem.wf : ConfigItem → Bool
  | .noItem sel => !namesItem sel
  | _ => true

/-- A selector given as naming no item is none of the four. -/
def ConfigValue.wf : ConfigValue → Bool
  | .noItem sel => !namesItem sel
  | _ => true

/-- R173: the image is 112 bytes long; the loader reads no more. -/
def eepromWf : Option (List Byte) → Bool
  | none => true
  | some bytes => decide (bytes.length ≤ 112)

end Sys2Proof.Machine

namespace Sys2Proof

open Machine

/-- The command's operands are of the form the spec gives them. -/
def Instr.wf : Instr → Bool
  | .requestFrameReceived f => f.wf
  | .completionFrameReceived f => f.wf
  | .configRead item => item.wf
  | .configWrite v => v.wf
  | .endOfLoading e _ => eepromWf e
  | .pinReset => true
  | .resetRelease => true
  | .hostFrameStart => true
  | .hostFrameEnd => true
  | .status => true
  | .submit _ => true
  | .takeCompletion => true
  | .takeNotify => true
  | .readEvents => true
  | .ackEvents _ => true
  | .setMask _ => true
  | .setThreshold _ => true
  | .setLineMode _ => true
  | .readPresence => true
  | .readCounters => true
  | .clearCounters _ => true
  | .readFault => true
  | .join => true
  | .leave => true
  | .abort => true
  | .restart => true
  | .contentionSlot _ => true
  | .roundOpen => true
  | .slotBegin => true
  | .slotEnd _ => true
  | .ownFrameSent => true
  | .collision => true
  | .beaconReceived _ => true
  | .corruptReception _ => true
  | .presenceTimeout _ => true
  | .beaconTimerExpiry => true
  | .joinHoldoffExpiry => true
  | .holdoffExpiry _ => true
  | .completionTimeout _ => true
  | .quarantineExpiry _ => true
  | .lifetimeExpiry _ => true
  | .issue => true
  | .placeRecord => true
  | .memoryGrant => true
  | .wordAccessComplete _ => true
  | .waitTimerExpiry => true
  | .notifyService => true
  | .endOfDraining => true
  | .hintPulseEnd => true
  | .startDelimiterSeen => true
  | .hostByteComplete _ => true

end Sys2Proof
end

