-- ==== Sys2Proof/Machine/HostCommands.lean ====
section
/-! DEFINITION. The nineteen host port commands (chapter 10). For each: what taking it does (`take…`), which
the frame decoder calls too, and the meaning of its row, which takes it when the decoder's state lets this
command be the next to be taken. -/

namespace Sys2Proof.Machine

/-- R155: the command is taken: its result and response are fixed, and the decoder is in RESPONSE. -/
def State.answer (s : State) (c : HostCode) (r : ResultCode) (response : List Byte) : State :=
  { s with
    host :=
      { s.host with
        decoder := .response, taken := some (c, r), reply := r.byte :: response, clocked := 0 } }

/-- R155: as `answer`, for a response that has bits the layout leaves open. -/
def State.answerLoose (s : State) (c : HostCode) (r : ResultCode) (layout : List OutByte) : State :=
  { s.answer c r (outBytes s.freeIndex 0 layout) with freeIndex := s.freeIndex + 1 }

/-- R158: whether the station state permits the command. -/
def HostCode.permitted (c : HostCode) (st : StationState) : Bool :=
  match st with
  | .loading => decide (c = .restart)
  | .config => decide (c ∉ [HostCode.leave, .abort])
  | .joining => decide (c ∉ [HostCode.configRead, .configWrite, .join, .leave])
  | .online => decide (c ∉ [HostCode.configRead, .configWrite, .join])
  | .draining => decide (c ∉ [HostCode.configRead, .configWrite, .join, .leave, .submit])
  | .detached => decide (c ∉ [HostCode.configRead, .configWrite, .join, .leave, .submit])

/-- R158: a command the station state does not permit is refused with WRONG_STATE and this response;
otherwise it is passed on. -/
def State.ifPermitted (s : State) (c : HostCode) (refused : List Byte) (carryOut : State → State) :
    State :=
  if c.permitted s.ctl.station then carryOut s else s.answer c .wrongState refused

/-- R154, R155: this command, with these operand bytes, is the one that the next completed byte takes:
HSEL# has fallen, no command has been taken in the frame, and the bytes received so far are the command's
first operand bytes but not all of them. -/
def State.takes (s : State) (c : HostCode) (operands : List Byte) : Bool :=
  !s.held && c.operandsWhole operands &&
    (match s.host.decoder with
      | .command => true
      | .operands c' got =>
        decide (c' = c) && decide (got.length < operands.length) && got.isPrefixOf operands
      | .idle => false
      | .response => false
      | .discard => false)

/-! ### Reading the station -/

/-- STATUS taken (R159). -/
def State.takeStatus (s : State) : State :=
  s.ifPermitted .status (fillers 9) fun s => s.answerLoose .status .done (statusLayout s)

/-- STATUS (R159). -/
def execStatus (s : State) : Host.Outcome State Fault Refusal :=
  .next (if s.takes .status [] then s.takeStatus else s)

/-- READ_PRESENCE taken (R160). -/
def State.takeReadPresence (s : State) : State :=
  s.ifPermitted .readPresence (fillers 4) fun s =>
    s.answer .readPresence .done (presenceBytes s.presence.table)

/-- READ_PRESENCE (R160). -/
def execReadPresence (s : State) : Host.Outcome State Fault Refusal :=
  .next (if s.takes .readPresence [] then s.takeReadPresence else s)

/-- READ_COUNTERS taken (R153, R161). -/
def State.takeReadCounters (s : State) : State :=
  s.ifPermitted .readCounters (fillers 18) fun s =>
    s.answer .readCounters .done (countersBytes s.events.counters)

/-- READ_COUNTERS (R153). -/
def execReadCounters (s : State) : Host.Outcome State Fault Refusal :=
  .next (if s.takes .readCounters [] then s.takeReadCounters else s)

/-- CLEAR_COUNTERS taken (R153, R161). -/
def State.takeClearCounters (s : State) (counters : BitVec 16) : State :=
  s.ifPermitted .clearCounters [] fun s =>
    (s.onEvents (fun e => { e with counters := e.counters.clear counters })).answer
      .clearCounters .done []

/-- CLEAR_COUNTERS (R153). -/
def execClearCounters (counters : BitVec 16) (s : State) : Host.Outcome State Fault Refusal :=
  .next (if s.takes .clearCounters (bytes2 counters) then s.takeClearCounters counters else s)

/-- READ_FAULT taken (R161). -/
def State.takeReadFault (s : State) : State :=
  s.ifPermitted .readFault (fillers 4) fun s =>
    s.answerLoose .readFault .done (faultLayout s.events.lastFault)

/-- READ_FAULT (R161). -/
def execReadFault (s : State) : Host.Outcome State Fault Refusal :=
  .next (if s.takes .readFault [] then s.takeReadFault else s)

/-! ### Requests and records -/

/-- SUBMIT taken (R75): WRONG_STATE, BAD_DESCRIPTOR, FULL, or queued with DONE. -/
def State.takeSubmit (s : State) (d : RawDescriptor) : State :=
  s.ifPermitted .submit [] fun s =>
    match d.valid? with
    | none => s.answer .submit .badDescriptor []
    | some desc =>
      if requestQueueSize ≤ s.issue.requestQueue.length then s.answer .submit .full []
      else
        { s with issue := { s.issue with requestQueue := s.issue.requestQueue ++ [desc] } }.answer
          .submit .done []

/-- SUBMIT (R75). -/
def execSubmit (d : RawDescriptor) (s : State) : Host.Outcome State Fault Refusal :=
  .next (if s.takes .submit d.bytes then s.takeSubmit d else s)

/-- TAKE_COMPLETION taken (R122): EMPTY, or DONE with the head record. -/
def State.takeTakeCompletion (s : State) : State :=
  s.ifPermitted .takeCompletion (fillers 10) fun s =>
    match s.completion.queue with
    | [] => s.answer .takeCompletion .empty (fillers 10)
    | r :: _ => s.answerLoose .takeCompletion .done r.layout

/-- TAKE_COMPLETION (R122). -/
def execTakeCompletion (s : State) : Host.Outcome State Fault Refusal :=
  .next (if s.takes .takeCompletion [] then s.takeTakeCompletion else s)

/-- TAKE_NOTIFY taken (R128): EMPTY, or DONE with the oldest record. -/
def State.takeTakeNotify (s : State) : State :=
  s.ifPermitted .takeNotify (fillers 7) fun s =>
    match s.mailbox.records with
    | [] => s.answer .takeNotify .empty (fillers 7)
    | r :: _ => s.answer .takeNotify .done r.bytes

/-- TAKE_NOTIFY (R128). -/
def execTakeNotify (s : State) : Host.Outcome State Fault Refusal :=
  .next (if s.takes .takeNotify [] then s.takeTakeNotify else s)

/-! ### Events -/

/-- READ_EVENTS taken (R142, R163). -/
def State.takeReadEvents (s : State) : State :=
  s.ifPermitted .readEvents (fillers 4) fun s =>
    s.answerLoose .readEvents .done (eventsLayout s.events)

/-- READ_EVENTS (R163). -/
def execReadEvents (s : State) : Host.Outcome State Fault Refusal :=
  .next (if s.takes .readEvents [] then s.takeReadEvents else s)

/-- R146: whether COMPLETION is pending again when re-evaluated: records enough, or an urgent one. -/
def State.completionAgain (s : State) : Bool :=
  decide (s.events.threshold ≤ s.completion.queue.length) || s.completion.queue.any (·.urgent)

/-- ACK_EVENTS taken (R146). -/
def State.takeAckEvents (s : State) (categories : Byte) : State :=
  s.ifPermitted .ackEvents [] fun s =>
    (s.onEvents (fun e =>
      e.ack (Categories.ofByte categories) s.completionAgain (!s.mailbox.records.isEmpty))).answer
        .ackEvents .done []

/-- ACK_EVENTS (R146). -/
def execAckEvents (categories : Byte) (s : State) : Host.Outcome State Fault Refusal :=
  .next (if s.takes .ackEvents [categories] then s.takeAckEvents categories else s)

/-- SET_MASK taken (R147). -/
def State.takeSetMask (s : State) (categories : Byte) : State :=
  s.ifPermitted .setMask [] fun s =>
    (s.onEvents (fun e => e.setMask (Categories.ofByte categories))).answer .setMask .done []

/-- SET_MASK (R147). -/
def execSetMask (categories : Byte) (s : State) : Host.Outcome State Fault Refusal :=
  .next (if s.takes .setMask [categories] then s.takeSetMask categories else s)

/-- SET_THRESHOLD taken (R147): a value in 1..32 replaces the threshold. -/
def State.takeSetThreshold (s : State) (value : Byte) : State :=
  s.ifPermitted .setThreshold [] fun s =>
    if 1 ≤ value.toNat ∧ value.toNat ≤ 32 then
      (s.onEvents (fun e => { e with threshold := value.toNat })).answer .setThreshold .done []
    else s.answer .setThreshold .configInvalid []

/-- SET_THRESHOLD (R147). -/
def execSetThreshold (value : Byte) (s : State) : Host.Outcome State Fault Refusal :=
  .next (if s.takes .setThreshold [value] then s.takeSetThreshold value else s)

/-- SET_LINE_MODE taken (R150, R163): a code naming neither mode changes nothing. -/
def State.takeSetLineMode (s : State) (code : Byte) : State :=
  s.ifPermitted .setLineMode [] fun s =>
    match lineModeOf code with
    | some m => (s.onEvents (fun e => e.setLineMode m)).answer .setLineMode .done []
    | none => s.answer .setLineMode .configInvalid []

/-- SET_LINE_MODE (R150). -/
def execSetLineMode (code : Byte) (s : State) : Host.Outcome State Fault Refusal :=
  .next (if s.takes .setLineMode [code] then s.takeSetLineMode code else s)

/-! ### Configuration -/

/-- R186: the number of response bytes of CONFIG_READ for an item. -/
def ConfigItem.responseLength : ConfigItem → Nat
  | .number => 1 | .ct => 2 | .waitLimit => 1 | .window _ => 17 | .noItem _ => 0

/-- CONFIG_READ taken (R164). -/
def State.takeConfigRead (s : State) (item : ConfigItem) : State :=
  s.ifPermitted .configRead (fillers item.responseLength) fun s =>
    match item with
    | .number => s.answer .configRead .done [natByte s.ctl.number.val]
    | .ct => s.answer .configRead .done (bytes2 (s.ctl.ct.setWidth 16))
    | .waitLimit => s.answer .configRead .done [s.ctl.waitLimit]
    | .window index =>
      match windowOfByte index with
      | some w => s.answerLoose .configRead .done (s.windows[w]).layout
      | none => s.answer .configRead .configInvalid (fillers 17)
    | .noItem _ => s.answer .configRead .configInvalid []

/-- CONFIG_READ (R164). -/
def execConfigRead (item : ConfigItem) (s : State) : Host.Outcome State Fault Refusal :=
  .next (if item.wf && s.takes .configRead item.bytes then s.takeConfigRead item else s)

/-- R165, R47: a new own number; the presence entry of the old number becomes ABSENT, that of the new
number SELF. -/
def State.setNumber (s : State) (n : StationNo) : State :=
  { s with
    ctl := { s.ctl with number := n }
    presence :=
      { s.presence with
        table :=
          (s.presence.table.set s.ctl.number.val .absent s.ctl.number.isLt).set n.val .self n.isLt } }

/-- CONFIG_WRITE taken (R165). -/
def State.takeConfigWrite (s : State) (v : ConfigValue) : State :=
  s.ifPermitted .configWrite [] fun s =>
    match v with
    | .number b =>
      if h : b.toNat < 16 then (s.setNumber ⟨b.toNat, h⟩).answer .configWrite .done []
      else s.answer .configWrite .configInvalid []
    | .ct c =>
      { s with ctl := { s.ctl with ct := c.extractLsb' 0 12 } }.answer .configWrite .done []
    | .waitLimit b =>
      if 1 ≤ b.toNat ∧ b.toNat ≤ 15 then
        { s with ctl := { s.ctl with waitLimit := b } }.answer .configWrite .done []
      else s.answer .configWrite .configInvalid []
    | .window index raw =>
      match windowOfByte index, raw.kind with
      | some w, some kind =>
        { s with
          windows := s.windows.set w.val (Window.fresh (raw.config kind)) w.isLt }.answer
            .configWrite .done []
      | _, _ => s.answer .configWrite .configInvalid []
    | .noItem _ => s.answer .configWrite .configInvalid []

/-- CONFIG_WRITE (R165). -/
def execConfigWrite (value : ConfigValue) (s : State) : Host.Outcome State Fault Refusal :=
  .next (if value.wf && s.takes .configWrite value.bytes then s.takeConfigWrite value else s)

/-! ### Changing the station state -/

/-- R166: JOIN finds work of the last stay still running. -/
def State.joinBusy (s : State) : Bool :=
  !s.ortFree || !s.completion.retire.isEmpty || !decide (s.port = none) || !s.tifQuiet

/-- JOIN taken (R166, R177). -/
def State.takeJoin (s : State) : State :=
  s.ifPermitted .join (fillers 2) fun s =>
    if s.joinBusy then s.answer .join .ortBusy (fillers 2)
    else
      match joinFault s.windows s.ctl.ct with
      | some (reason, w) => s.answer .join .configInvalid (joinFaultBytes reason w)
      | none => s.enterJoining.answer .join .done (fillers 2)

/-- JOIN (R166). -/
def execJoin (s : State) : Host.Outcome State Fault Refusal :=
  .next (if s.takes .join [] then s.takeJoin else s)

/-- LEAVE taken (R167, R179): the station enters DRAINING. -/
def State.takeLeave (s : State) : State :=
  s.ifPermitted .leave [] fun s =>
    { s with ctl := { s.ctl with station := .draining } }.answer .leave .done []

/-- LEAVE (R179). -/
def execLeave (s : State) : Host.Outcome State Fault Refusal :=
  .next (if s.takes .leave [] then s.takeLeave else s)

/-- ABORT taken (R167, R181): the response counts the descriptors removed from the request queue; a
refused ABORT gives a count of 0. -/
def State.takeAbort (s : State) : State :=
  s.ifPermitted .abort [0] fun s =>
    s.abortStation.answer .abort .done [natByte s.issue.requestQueue.length]

/-- ABORT (R181). -/
def execAbort (s : State) : Host.Outcome State Fault Refusal :=
  .next (if s.takes .abort [] then s.takeAbort else s)

/-- RESTART taken (R168): DONE; its effect waits for the end of the frame. -/
def State.takeRestart (s : State) : State :=
  s.ifPermitted .restart [] fun s => s.answer .restart .done []

/-- RESTART (R168). -/
def execRestart (s : State) : Host.Outcome State Fault Refusal :=
  .next (if s.takes .restart [] then s.takeRestart else s)

/-! ### Taking a command by its bytes -/

/-- R155: the command of this code is taken with these operand bytes. -/
def State.takeByCode (s : State) (c : HostCode) (bs : List Byte) : State :=
  match c with
  | .status => s.takeStatus
  | .submit => s.takeSubmit (RawDescriptor.ofBytes bs)
  | .takeCompletion => s.takeTakeCompletion
  | .takeNotify => s.takeTakeNotify
  | .readEvents => s.takeReadEvents
  | .ackEvents => s.takeAckEvents (byteAt bs 0)
  | .setMask => s.takeSetMask (byteAt bs 0)
  | .setThreshold => s.takeSetThreshold (byteAt bs 0)
  | .setLineMode => s.takeSetLineMode (byteAt bs 0)
  | .readPresence => s.takeReadPresence
  | .readCounters => s.takeReadCounters
  | .clearCounters => s.takeClearCounters (num2At bs 0)
  | .readFault => s.takeReadFault
  | .configRead => s.takeConfigRead (ConfigItem.ofBytes bs)
  | .configWrite => s.takeConfigWrite (ConfigValue.ofBytes bs)
  | .join => s.takeJoin
  | .leave => s.takeLeave
  | .abort => s.takeAbort
  | .restart => s.takeRestart

end Sys2Proof.Machine
end

