-- ==== Sys2Proof/Machine/HostFrames.lean ====
section
/-! DEFINITION. The host port's frame decoder (R154 to R157): HOST_FRAME_START, HOST_BYTE_COMPLETE,
HOST_FRAME_END. -/

namespace Sys2Proof.Machine

/-- The Host Port with no frame: HSEL# high, the decoder IDLE. -/
def HostPort.atRest : HostPort where
  selected := false
  decoder := .idle
  taken := none
  reply := []
  clocked := 0

/-- HOST_FRAME_START (R154): HSEL# falls and the decoder goes to COMMAND; a held station's decoder stays
IDLE (R170), and so it does not take this frame. -/
def execHostFrameStart (s : State) : Host.Outcome State Fault Refusal :=
  .next (
    if s.host.selected then s
    else
      { s with
        host :=
          { HostPort.atRest with
            selected := true, decoder := if s.held then .idle else .command } })

/-- What the station clocks out while the byte now being received is completed (R155, R156): nothing in
IDLE, filler before the command is taken and in DISCARD, then the result byte, the response, and filler
again. -/
def HostPort.out (h : HostPort) : Option Byte :=
  match h.decoder with
  | .idle => none
  | .command => some filler
  | .operands _ _ => some filler
  | .discard => some filler
  | .response => some (h.reply.getD h.clocked filler)

/-- The level of HDO (R154, R170): the byte the station drives on it, if it drives it. -/
def State.hdo (s : State) : Option Byte := if s.host.selected then s.host.out else none

/-- R154: a byte is completed in this decoder state. -/
def State.byteCompleted (s : State) (b : Byte) : State :=
  match s.host.decoder with
  | .idle => s
  | .command =>
    match HostCode.ofByte b with
    | none => { s with host := { s.host with decoder := .discard } }
    | some c =>
      if c.operandsWhole [] then s.takeByCode c []
      else { s with host := { s.host with decoder := .operands c [] } }
  | .operands c got =>
    if c.operandsWhole (got ++ [b]) then s.takeByCode c (got ++ [b])
    else { s with host := { s.host with decoder := .operands c (got ++ [b]) } }
  | .response => { s with host := { s.host with clocked := s.host.clocked + 1 } }
  | .discard => s

/-- HOST_BYTE_COMPLETE (R154). -/
def execHostByteComplete (b : Byte) (s : State) : Host.Outcome State Fault Refusal :=
  .next (s.unlessHeld fun s => s.byteCompleted b)

/-- R157: the record sent by a take answered DONE has been clocked out whole: the result byte and every
byte of the record have been completed. -/
def HostPort.recordWhole (h : HostPort) : Bool := decide (h.reply.length ≤ h.clocked)

/-- R157: a frame in RESPONSE ends. -/
def State.takenFrameEnds (s : State) : State :=
  match s.host.taken with
  | some (.takeCompletion, .done) =>
    if s.host.recordWhole then
      { s with
        completion := { s.completion with queue := s.completion.queue.tail }, host := HostPort.atRest }
    else { s with host := HostPort.atRest }
  | some (.takeNotify, .done) =>
    if s.host.recordWhole then
      { s with
        mailbox := { s.mailbox with records := s.mailbox.records.tail }, host := HostPort.atRest }
    else { s with host := HostPort.atRest }
  | some (.restart, .done) =>
    { s.resetBlocks s.events.lastFault with host := HostPort.atRest }
  | _ => { s with host := HostPort.atRest }

/-- HOST_FRAME_END (R156, R157, R168, R171): HSEL# rises. A frame whose command was not taken is discarded
and counted; in IDLE (a frame a pin reset interrupted, R154) nothing is counted. -/
def execHostFrameEnd (s : State) : Host.Outcome State Fault Refusal :=
  .next (
    if s.host.selected then
      match s.host.decoder with
      | .idle => { s with host := HostPort.atRest }
      | .response => s.takenFrameEnds
      | .command => { s.onEvents EventUnit.countHostFrameError with host := HostPort.atRest }
      | .operands _ _ => { s.onEvents EventUnit.countHostFrameError with host := HostPort.atRest }
      | .discard => { s.onEvents EventUnit.countHostFrameError with host := HostPort.atRest }
    else s)

end Sys2Proof.Machine
end

