-- ==== Sys2Proof/Machine/Initiator.lean ====
section
/-! DEFINITION. The initiator side (chapters 5 to 7): issue, the ORT's timers, placement of completion
records; the rows ISSUE, HOLDOFF_EXPIRY, COMPLETION_TIMEOUT, QUARANTINE_EXPIRY, PLACE_RECORD. -/

namespace Sys2Proof.Machine

/-- R81: the FREE entry with the lowest tag. -/
def State.lowestFree (s : State) : Option Tag :=
  allTags.find? (fun t => decide ((s.entry t).state = .free))

/-- R83: an entry is FETCHING. -/
def State.fetching (s : State) : Bool := allTags.any (fun t => decide ((s.entry t).state = .fetching))

/-- R82: every request issued before has been retired. -/
def State.fenceMet (s : State) : Bool := s.ortAtRest && s.completion.retire.isEmpty

/-- R73: the op needs a fetch of its data. -/
def Op.fetches : Op → Bool
  | .write => true
  | .writeAcked => true
  | .read => false
  | .swap => false

/-- R80: the head descriptor may be issued, apart from the free tag. -/
def State.mayIssue (s : State) (d : Descriptor) : Bool :=
  decide (s.ctl.station = .online) && (!d.fence || s.fenceMet) && (!d.op.fetches || !s.fetching)

/-- R84: an entry as issue fills it. -/
def issuedEntry (d : Descriptor) : OrtEntry :=
  { OrtEntry.blank with
    state := if d.op.fetches then .fetching else .ready
    op := d.op
    urgent := d.urgent
    address := d.address
    length := d.length
    localAddress := d.localAddress
    cookie := d.cookie
    compareValue := d.compareValue
    newValue := d.newValue }

/-- R84: the head descriptor is issued into the entry of tag `t`. -/
def State.issueInto (s : State) (t : Tag) (d : Descriptor) (rest : List Descriptor) : State :=
  { s with
    ort :=
      { entries := s.ort.entries.set t.val (issuedEntry d) t.isLt
        issueOrder := s.ort.issueOrder ++ [t] }
    issue := { requestQueue := rest, unsent := s.issue.unsent ++ [t] } }

/-- ISSUE (R80 to R84). -/
def execIssue (s : State) : Host.Outcome State Fault Refusal :=
  .next (
    match s.issue.requestQueue, s.lowestFree with
    | d :: rest, some t => if s.mayIssue d then s.issueInto t d rest else s
    | _, _ => s)

/-- HOLDOFF_EXPIRY (R97): the holdoff has no tick remaining; the entry becomes READY, in its place on the unsent list. -/
def execHoldoffExpiry (t : Tag) (s : State) : Host.Outcome State Fault Refusal :=
  .next (
    match (s.entry t).state with
    | .hold 0 => s.setEntry t { s.entry t with state := .ready }
    | _ => s)

/-- COMPLETION_TIMEOUT (R100): the timer has no tick remaining; the entry becomes DONE(TIMEOUT). -/
def execCompletionTimeout (t : Tag) (s : State) : Host.Outcome State Fault Refusal :=
  .next (
    match (s.entry t).state with
    | .awaiting 0 => s.enterDone t (s.entry t) .timeout
    | _ => s)

/-- QUARANTINE_EXPIRY (R112): the quarantine has no tick remaining; the entry becomes FREE. -/
def execQuarantineExpiry (t : Tag) (s : State) : Host.Outcome State Fault Refusal :=
  .next (
    match (s.entry t).state with
    | .stale 0 => s.freeEntry t
    | _ => s)

/-- R109, R117: the completion record of a DONE entry. -/
def OrtEntry.record (e : OrtEntry) (st : Status) : CompletionRecord where
  cookie := e.cookie
  op := e.op
  status := st
  target := e.target
  oldValue := e.oldValue
  swapped := e.swapped
  busyRetries := e.busyRetries
  corruptResends := e.corruptResends
  urgent := e.urgent

/-- R111: the entry whose record has been placed becomes STALE, or FREE. -/
def State.retired (s : State) (t : Tag) (st : Status) : State :=
  if (st = .timeout ∨ st = .targetLost) ∧ s.onTrunk = true then
    s.setEntry t { s.entry t with state := .stale s.ctl.ct.toNat }
  else s.freeEntry t

/-- R121: the record of the first tag of the retire list is placed. -/
def State.placeRecord (s : State) (t : Tag) (rest : List Tag) (st : Status) : State :=
  let e := s.entry t
  { s.retired t st with
    completion := { queue := s.completion.queue ++ [e.record st], retire := rest }
    events := s.events.recordPlaced (s.completion.queue.length + 1) e.urgent }

/-- PLACE_RECORD (R120, R121). -/
def execPlaceRecord (s : State) : Host.Outcome State Fault Refusal :=
  .next (
    match s.completion.retire with
    | [] => s
    | t :: rest =>
      match (s.entry t).result with
      | none => s
      | some st =>
        if s.completion.queue.length < completionQueueSize then s.placeRecord t rest st else s)

end Sys2Proof.Machine
end

