-- ==== Sys2Proof/Machine/Lifecycle.lean ====
section
/-! DEFINITION. The station's lifecycle (chapter 11): PIN_RESET, RESET_RELEASE, END_OF_LOADING,
JOIN_HOLDOFF_EXPIRY, END_OF_DRAINING, HINT_PULSE_END. -/

namespace Sys2Proof.Machine

/-- PIN_RESET (R170): every block takes its pin-reset values, the last-fault record becomes absent, and the
station is held. -/
def execPinReset (s : State) : Host.Outcome State Fault Refusal :=
  .next { s.resetBlocks none with held := true }

/-- RESET_RELEASE (R170): the held station enters LOADING and its loader starts. -/
def execResetRelease (s : State) : Host.Outcome State Fault Refusal :=
  .next (if s.held then { s with held := false } else s)

/-- R174: the working configuration, line mode and threshold of a LOADED image, or the defaults; the
station number from the image when its strap-override flag is set, otherwise from the straps. -/
def State.configure (s : State) (eeprom : Option (List Byte)) (straps : StationNo) : State :=
  let result := loadResultOf eeprom
  let number :=
    match eeprom with
    | some image =>
      if result = .loaded ∧ imageOverride image = true then imageNumber image else straps
    | none => straps
  let settings : BitVec 12 × BitVec 8 × Vector Window 8 × LineMode × Nat :=
    match result, eeprom with
    | .loaded, some image =>
      (imageCt image, imageWaitLimit image, Vector.ofFn (imageWindow image), imageLineMode image,
        imageThreshold image)
    | _, _ =>
      (ctDefault, waitLimitDefault, Vector.replicate 8 (Window.fresh WindowConfig.default), .level, 1)
  { s with
    ctl :=
      { s.ctl with
        number := number, ct := settings.1, waitLimit := settings.2.1, loadResult := result }
    windows := settings.2.2.1
    presence := { s.presence with table := presenceCleared number }
    events := { s.events with lineMode := settings.2.2.2.1, threshold := settings.2.2.2.2 } }

/-- The auto-join flag of a LOADED image (R175). -/
def autoJoinApplies (eeprom : Option (List Byte)) : Bool :=
  match eeprom with
  | some image => decide (loadResultOf eeprom = .loaded) && imageAutoJoin image
  | none => false

/-- The station enters CONFIG at the end of loading (R175). -/
def State.toConfig (s : State) : State := { s with ctl := { s.ctl with station := .config } }

/-- R173 to R175: the end of loading. -/
def State.endOfLoading (s : State) (eeprom : Option (List Byte)) (straps : StationNo) : State :=
  let s1 := s.configure eeprom straps
  if loadResultOf eeprom = .corrupt then
    (s1.onEvents (fun e => e.raiseFault .loadFault ⟨.loadFault, .loading, .absent⟩)).toConfig
  else if autoJoinApplies eeprom then
    match joinFault s1.windows s1.ctl.ct with
    | none => s1.enterJoining
    | some (reason, w) =>
      (s1.onEvents (fun e =>
        e.raiseFault .joinInvalid ⟨.joinInvalid, .loading, .join reason w⟩)).toConfig
  else s1.toConfig

/-- END_OF_LOADING (R173 to R175). -/
def execEndOfLoading (eeprom : Option (List Byte)) (straps : StationNo) (s : State) :
    Host.Outcome State Fault Refusal :=
  .next (s.unlessHeld fun s =>
    if s.ctl.station = .loading then s.endOfLoading eeprom straps else s)

/-- JOIN_HOLDOFF_EXPIRY (R178, R44): the holdoff has no tick remaining; the station enters ONLINE; the beacon timer starts and a beacon is
queued. -/
def execJoinHoldoffExpiry (s : State) : Host.Outcome State Fault Refusal :=
  .next (
    if s.ctl.station = .joining ∧ s.ctl.joinHoldoff = some 0 then
      { s with
        ctl := { s.ctl with station := .online, joinHoldoff := none }
        presence :=
          { s.presence with beaconTimer := .running beaconInterval, beaconQueued := true } }
    else s)

/-- R180: the conditions of the end of draining. -/
def State.drained (s : State) : Bool :=
  s.ortAtRest && s.completion.retire.isEmpty && s.targetAtRest && decide (s.port = none) && s.tifQuiet

/-- END_OF_DRAINING (R180). -/
def execEndOfDraining (s : State) : Host.Outcome State Fault Refusal :=
  .next (if s.ctl.station = .draining ∧ s.drained = true then s.endDraining else s)

/-- HINT_PULSE_END (R149): the pulse ends and the line is released. -/
def execHintPulseEnd (s : State) : Host.Outcome State Fault Refusal :=
  .next { s with events := { s.events with pulsing := false } }

end Sys2Proof.Machine
end

