-- ==== Sys2Proof/Machine/TargetEngine.lean ====
section
/-! DEFINITION. The Target Engine's rows NOTIFY_SERVICE and LIFETIME_EXPIRY (chapter 4). -/

namespace Sys2Proof.Machine

/-- The data bytes of a write request. -/
def ReqBody.data : ReqBody → List Byte
  | .write d => d
  | .writeAcked _ d => d
  | .read _ _ => []
  | .swap _ _ _ => []

/-- R64: the notify record of a notify entry. -/
def ServiceEntry.notifyRecord (e : ServiceEntry) (offset : Nat) : NotifyRecord where
  source := e.request.source
  window := e.window
  wordOffset := offset
  value := e.request.body.data
  acked := decide (e.request.body.op = .writeAcked)

/-- R64, R126: a notify entry at the head is served: its record is placed, its notify hold released, the
response of a WRITE_ACKED produced, and the entry removed. -/
def State.serveNotify (s : State) (e : ServiceEntry) (offset : Nat) : State :=
  ({ s with
      mailbox :=
        { records := s.mailbox.records ++ [e.notifyRecord offset]
          reserved := if e.notifyHold then s.mailbox.reserved - 1 else s.mailbox.reserved }
      events := s.events.pendNotify }.respond e .ok false []).popService

/-- NOTIFY_SERVICE (R60, R64). -/
def execNotifyService (s : State) : Host.Outcome State Fault Refusal :=
  .next (
    match s.target.service with
    | [] => s
    | e :: _ =>
      match e.dest with
      | .notify offset => s.serveNotify e offset
      | .memory _ => s)

/-- R67: the reservation of the service entry at this place, with no tick of its lifetime remaining, expires: it
is released and counted, and the
entry keeps its place with the note. -/
def State.expireService (s : State) (i : Nat) : State :=
  match s.target.service[i]? with
  | none => s
  | some e =>
    match e.reservation with
    | .live 0 =>
      { s with
        target :=
          { s.target with
            service := s.target.service.set i { e with reservation := .expired }
            nonPosted := s.target.nonPosted - 1 }
        events := s.events.responsesDropped 1 }
    | .live (_ + 1) => s
    | .none => s
    | .expired => s

/-- R67: the reservation of the response at this place, with no tick of its lifetime remaining, expires: the
response is dropped. -/
def State.expireResponse (s : State) (i : Nat) : State :=
  match s.target.responses[i]? with
  | none => s
  | some r => if r.lifetime = 0 then s.dropResponse i else s

/-- LIFETIME_EXPIRY (R67). -/
def execLifetimeExpiry (place : ReservationPlace) (s : State) : Host.Outcome State Fault Refusal :=
  .next (
    match place with
    | .service i => s.expireService i.val
    | .response i => s.expireResponse i.val)

end Sys2Proof.Machine
end

