-- ==== Sys2Proof/Machine/MemoryPort.lean ====
section
/-! DEFINITION. The memory port (chapter 8): the arbiter, the word accesses, the end of an operation; the rows
MEMORY_GRANT, WORD_ACCESS_COMPLETE, WAIT_TIMER_EXPIRY. -/

namespace Sys2Proof.Machine

/-! ### The arbiter -/

/-- R131: an operation as it is asked for. Its wait timer starts as each access begins. -/
def newOp (requester : Requester) (kind : MemKind) (address length : Nat) : MemOp where
  requester := requester
  kind := kind
  address := address
  length := length
  completed := 0
  gathered := []
  wait := 0
  discard := false

/-- R61 to R63: the operation that serves a request. -/
def ReqBody.memKind : ReqBody → MemKind
  | .write d => .write d
  | .writeAcked _ d => .write d
  | .read _ _ => .read
  | .swap _ c n => .swap c n

/-- R60: the Target Engine's request: the head of the service queue, when it is for a MEMORY window. -/
def State.targetRequest (s : State) : Option MemOp :=
  match s.target.service with
  | [] => none
  | e :: _ =>
    match e.dest with
    | .notify _ => none
    | .memory a => some (newOp .target e.request.body.memKind a e.request.body.length)

/-- R107: among the stores waiting, that of the earliest issue position. -/
def State.storeRequest (s : State) : Option MemOp :=
  (s.ort.issueOrder.find? (fun t =>
      decide ((s.entry t).state = .storing) && !(s.entry t).endingMark)).map
    (fun t =>
      newOp (.store t) (.write (s.entry t).buffer) (s.entry t).localAddress
        (s.entry t).length)

/-- R85: the fetch waiting. -/
def State.fetchRequest (s : State) : Option MemOp :=
  (s.ort.issueOrder.find? (fun t =>
      decide ((s.entry t).state = .fetching) && !(s.entry t).endingMark)).map
    (fun t => newOp (.fetch t) .read (s.entry t).localAddress (s.entry t).length)

/-- R137: the arbiter's choice: target service, then the earliest store, then the fetch. -/
def State.arbiterChoice (s : State) : Option MemOp :=
  s.targetRequest <|> s.storeRequest <|> s.fetchRequest

/-- R60, R137: the Target Engine has still to act: the head of the service queue is for a NOTIFY window, and is
served and removed before the engine has made its next request. -/
def State.notifyAtHead (s : State) : Bool :=
  match s.target.service with
  | [] => false
  | e :: _ =>
    match e.dest with
    | .notify _ => true
    | .memory _ => false

/-- R133: the next word access of this operation begins: its wait timer starts with the wait limit now held. -/
def State.beginAccess (s : State) (op : MemOp) : State :=
  { s with port := some { op with wait := s.ctl.waitLimit.toNat } }

/-- MEMORY_GRANT (R137): with the port idle, and no notify entry still to be served, the chosen request is granted,
and its first word access begins. No store or fetch comes between two service entries. -/
def execMemoryGrant (s : State) : Host.Outcome State Fault Refusal :=
  .next (
    match s.port with
    | some _ => s
    | none =>
      if s.notifyAtHead then s
      else
        match s.arbiterChoice with
        | none => s
        | some op => s.beginAccess op)

/-! ### The end of an operation -/

/-- R60 to R63, R65: a target operation ends: the entry at the head is finished and removed. -/
def State.finishService (s : State) (op : MemOp) (fault : Bool) : State :=
  match s.target.service with
  | [] => s
  | e :: _ =>
    match e.request.body with
    | .write _ =>
      (if fault then
        s.onEvents (fun ev =>
          ev.raiseFault .targetWriteFault ⟨.targetWriteFault, s.ctl.station, .window e.window⟩)
      else s).popService
    | .writeAcked _ _ => (s.respond e (if fault then .memoryFault else .ok) false []).popService
    | .read _ _ =>
      (if fault then s.respond e .memoryFault false [] else s.respond e .ok false op.gathered).popService
    | .swap _ _ _ =>
      (if fault then s.respond e .memoryFault false []
        else s.respond e .ok (decide (op.completed = 4)) op.gathered).popService

/-- R151: the detail of a LOCAL_MEMORY_FAULT from a store, the target station of the entry. -/
def storeFaultDetail (e : OrtEntry) : FaultDetail :=
  match e.target with
  | some n => .station n
  | none => .absent

/-- R85, R114: a fetch ends. -/
def State.finishFetch (s : State) (t : Tag) (op : MemOp) (fault : Bool) : State :=
  let e := { s.entry t with buffer := op.gathered }
  if e.state = .fetching then
    if e.endingMark then s.enterDone t e .aborted
    else if fault then
      (s.enterDone t e .localFault).onEvents (fun ev =>
        ev.raiseFault .localMemoryFault ⟨.localMemoryFault, s.ctl.station, .absent⟩)
    else s.setEntry t { e with state := .ready }
  else s

/-- R108, R114: a store ends. -/
def State.finishStore (s : State) (t : Tag) (fault : Bool) : State :=
  let e := s.entry t
  if e.state = .storing then
    if e.endingMark then s.enterDone t e .aborted
    else if fault then
      (s.enterDone t e .localFault).onEvents (fun ev =>
        ev.raiseFault .localMemoryFault ⟨.localMemoryFault, s.ctl.station, storeFaultDetail e⟩)
    else s.enterDone t e .ok
  else s

/-- R131, R134: the operation ends, completed or with MEMORY_FAULT: the port becomes idle, a fault is
counted, and the requester acts on the result, or discards it (R71). -/
def State.endOperation (s : State) (op : MemOp) (fault : Bool) : State :=
  let s1 : State :=
    { s with port := none, events := if fault then s.events.countMemoryFault else s.events }
  match op.requester with
  | .target => if op.discard then s1 else s1.finishService op fault
  | .fetch t => s1.finishFetch t op fault
  | .store t => s1.finishStore t fault

/-! ### Word accesses -/

/-- R136: the word as the local controller's own side of the memory has set it since, if it has. -/
def otherSideWrite (m : List Host.Cell) (word : Nat) : Option (BitVec 16) → List Host.Cell
  | none => m
  | some w => Memory.writeAt m [(2 * word, w.extractLsb' 0 8), (2 * word + 1, w.extractLsb' 8 8)]

/-- R132: local memory after the access under way has been made. -/
def MemOp.access (op : MemOp) (m : List Host.Cell) : List Host.Cell :=
  if op.writing then Memory.writeAt m op.cells else m

/-- R132: the operation after the access under way has completed on this memory. -/
def MemOp.advance (op : MemOp) (m : List Host.Cell) : MemOp :=
  { op with
    completed := op.completed + 1
    gathered := if op.writing then op.gathered else op.gathered ++ Memory.readAt m op.lanes }

/-- R131, R136: no word access is left to be made. A SWAP ends after its second read when the old word does
not equal the compare value. -/
def MemOp.finished (op : MemOp) : Bool :=
  match op.kind with
  | .swap c _ =>
    decide (4 ≤ op.completed) || (decide (op.completed = 2) && decide (op.gathered ≠ c.toList))
  | .read => decide (wordCount op.address op.length ≤ op.completed)
  | .write _ => decide (wordCount op.address op.length ≤ op.completed)

/-- R133: the word access under way completes and its timer is stopped; the next begins, or the operation ends. -/
def State.completeAccess (s : State) (op : MemOp) (otherSide : Option (BitVec 16)) : State :=
  let m := otherSideWrite s.localMem op.word otherSide
  let s1 : State := { s with localMem := op.access m }
  let op' := op.advance m
  if op'.finished then s1.endOperation op' false
  else s1.beginAccess op'

/-- WORD_ACCESS_COMPLETE (R133): MREADY is ignored when no access is under way. -/
def execWordAccessComplete (otherSide : Option (BitVec 16)) (s : State) :
    Host.Outcome State Fault Refusal :=
  match s.port with
  | none => .next s
  | some op =>
    if 2 * op.word + 1 < localMemorySize then .next (s.completeAccess op otherSide)
    else .fault .noSuchLocalWord

/-- WAIT_TIMER_EXPIRY (R133, R134): the access faults, and the operation ends with MEMORY_FAULT. A timer
with time remaining, as that of the access begun behind a completed one, has not expired (log entry 7). -/
def execWaitTimerExpiry (s : State) : Host.Outcome State Fault Refusal :=
  .next (
    match s.port with
    | none => s
    | some op => if op.wait = 0 then s.endOperation op true else s)

end Sys2Proof.Machine
end

