-- ==== Sys2Proof/Machine/Reception.lean ====
section
/-! DEFINITION. Receptions (R23 to R26) and what the blocks do with them: the Presence Monitor, the Access
Unit, the duplicate check, the claim decision (R56, R57) and the ORT (R101 to R104); the rows
REQUEST_FRAME_RECEIVED, COMPLETION_FRAME_RECEIVED, BEACON_RECEIVED, CORRUPT_RECEPTION, PRESENCE_TIMEOUT. -/

namespace Sys2Proof.Machine

/-! ### What each block does with a clean frame -/

/-- R48: the Presence Monitor hears a clean frame from `src`. -/
def State.presenceHeard (s : State) (src : StationNo) : State :=
  match s.presence.table[src] with
  | .self => s
  | .present _ =>
    { s with
      presence :=
        { s.presence with
          table := s.presence.table.set src.val (.present presenceTicks) src.isLt } }
  | .absent =>
    { s with
      presence :=
        { s.presence with
          table := s.presence.table.set src.val (.present presenceTicks) src.isLt }
      events := s.events.raiseTrunk .presenceChange }

/-- R40: the Access Unit hears a clean frame from `src`. -/
def State.accessHeard (s : State) (src : StationNo) : State :=
  { s with access := { s.access with rotation := src, sync := .inSync } }

/-- R22: the frame just ended is followed by a slot, unless it is a BEACON. -/
def State.afterFrame (s : State) (f : Frame) (sender : Option Origin) (mark : Mark) : State :=
  { s with
    tif :=
      s.tif.frameEnded
        (match f with
        | .beacon _ => none
        | .request _ => some ⟨sender, mark, false, s.ctl.number⟩
        | .completion _ => some ⟨sender, mark, false, s.ctl.number⟩) }

/-- R57: one of the capacity conditions that make a permitted request BUSY holds. -/
def State.targetFull (s : State) (f : ReqFrame) (dest : Dest) : Bool :=
  decide (serviceQueueSize ≤ s.target.service.length)
    || (f.body.tag.isSome && decide (serviceQueueSize ≤ s.target.nonPosted))
    || (match dest with
        | .memory _ => false
        | .notify _ => decide (mailboxSize ≤ s.mailbox.records.length + s.mailbox.reserved))

/-- R14: a refusal is recorded against the window, and counted, at the decision. -/
def State.recordRefusal (s : State) (w : WindowIdx) (reason : RefusalReason) (src : StationNo) : State :=
  { s with
    windows := s.windows.set w.val ((s.windows[w]).recordRefusal reason src) w.isLt
    events := s.events.countRefusal }

/-- R56: the claim decision on a clean request frame in ONLINE: what it records, and the marks decided. -/
def State.decideClaim (s : State) (f : ReqFrame) : State × Mark :=
  match lookup s.windows f with
  | .noMatch => (s, .none)
  | .refuse w reason => (s.recordRefusal w reason f.source, .claim ⟨w, f, .refuse⟩)
  | .permitted w dest =>
    if s.targetFull f dest then (s.onEvents EventUnit.countBusy, .claim ⟨w, f, .busy⟩)
    else (s, .claim ⟨w, f, .accept dest⟩)

/-- R102: a matched completion fits the entry's op. -/
def CplFrame.fits (f : CplFrame) (e : OrtEntry) : Bool :=
  match e.op, f.status with
  | .read, .ok => decide (f.data.length = e.length) && !f.swapped
  | .swap, .ok => decide (f.data.length = 4)
  | .writeAcked, .ok => f.data.isEmpty && !f.swapped
  | .write, _ => false
  | _, .memoryFault => f.data.isEmpty && !f.swapped

/-- R103: a well-formed matched completion. -/
def State.matchedCompletion (s : State) (f : CplFrame) (e : OrtEntry) : State :=
  match f.status with
  | .memoryFault => s.enterDone f.tag e .remoteFault
  | .ok =>
    match e.op with
    | .read => s.setEntry f.tag { e with state := .storing, buffer := f.data }
    | .swap =>
      s.enterDone f.tag { e with oldValue := some (word4At f.data 0), swapped := some f.swapped } .ok
    | .writeAcked => s.enterDone f.tag e .ok
    | .write => s.enterDone f.tag e .ok

/-- R101: a clean COMPLETION to the own number at the ORT. -/
def State.ortCompletion (s : State) (f : CplFrame) : State :=
  if s.ctl.station = .joining then s.onEvents EventUnit.countLate
  else
    let e := s.entry f.tag
    match e.state with
    | .awaiting _ =>
      if e.target = some f.source then
        if f.fits e then s.matchedCompletion f e else s.onEvents EventUnit.countMalformed
      else s.onEvents EventUnit.countLate
    | .stale _ => (s.freeEntry f.tag).onEvents EventUnit.countLate
    | _ => s.onEvents EventUnit.countLate

/-- R25, R28: the frame's own part, after the Presence Monitor, the Access Unit and the duplicate check,
and the slot that follows it. -/
def State.handByKind (s : State) (f : Frame) (sender : Option Origin) : State :=
  match f with
  | .beacon _ => s.afterFrame f sender .none
  | .request r =>
    if s.ctl.station = .online then
      (s.decideClaim r).1.afterFrame f sender (s.decideClaim r).2
    else s.afterFrame f sender .none
  | .completion c =>
    if c.destination = s.ctl.number then
      (s.ortCompletion c).afterFrame f sender (if s.onTrunk then .completion else .none)
    else s.afterFrame f sender .none

/-- R35: a duplicate in JOINING fails the join, in ONLINE or DRAINING it detaches the station; the frame is
then treated as one received in the new state. -/
def State.duplicate (s : State) (f : Frame) : State :=
  if s.ctl.station = .joining then (s.afterFrame f none .none).failJoin
  else (s.afterFrame f none .none).detach .duplicateStation

/-- R25: a clean reception in JOINING, ONLINE, DRAINING or DETACHED; `sender` is the origin of an own
reception. -/
def State.receive (s : State) (f : Frame) (sender : Option Origin) : State :=
  let s1 := s.presenceHeard f.source
  if s.ctl.station = .detached then s1.afterFrame f sender .none
  else
    let s2 := s1.accessHeard f.source
    if sender = none ∧ f.source = s.ctl.number then s2.duplicate f else s2.handByKind f sender

/-- R26: a corrupt reception, with or without a slot after it. -/
def State.receiveCorrupt (s : State) (slotFollows : Bool) : State :=
  let s1 := s.onEvents EventUnit.countCorruptFrame
  let s2 := if s.ctl.station = .detached then s1 else s1.loseSync
  { s2 with
    tif :=
      s2.tif.frameEnded
        (if slotFollows then some ⟨none, if s.onTrunk then .corrupt else .none, false, s.ctl.number⟩
        else none) }

/-- R23: the receiver takes the frame of another station that ends: it is on, it has seen that frame's start
delimiter since it came on, and the station is not transmitting. -/
def State.hearsFrame (s : State) : Bool := s.receiverOn && decide (s.tif.tx = none) && s.tif.incoming

/-- R23: the receiver takes the request or completion frame of another station that ends. Such a frame is
longer than the guard interval and slot of an exchange of the station's own, so none of its own is under way
(log entry 10). -/
def State.receives (s : State) : Bool := s.hearsFrame && s.tifQuiet

/-! ### The rows -/

/-- REQUEST_FRAME_RECEIVED (R25). An ill-formed frame is classed corrupt (R23). -/
def execRequestFrameReceived (f : ReqFrame) (s : State) : Host.Outcome State Fault Refusal :=
  .next (
    if s.receives then
      if f.wf then s.receive (.request f) none else s.receiveCorrupt true
    else s)

/-- COMPLETION_FRAME_RECEIVED (R25, R101). An ill-formed frame is classed corrupt (R23). -/
def execCompletionFrameReceived (f : CplFrame) (s : State) : Host.Outcome State Fault Refusal :=
  .next (
    if s.receives then
      if f.wf then s.receive (.completion f) none else s.receiveCorrupt true
    else s)

/-- BEACON_RECEIVED (R21, R48). A BEACON can pass between a frame and the end of its slot (R22, R184). -/
def execBeaconReceived (source : StationNo) (s : State) : Host.Outcome State Fault Refusal :=
  .next (if s.hearsFrame then s.receive (.beacon source) none else s)

/-- CORRUPT_RECEPTION (R26). -/
def execCorruptReception (slotFollows : Bool) (s : State) : Host.Outcome State Fault Refusal :=
  .next (if s.hearsFrame then s.receiveCorrupt slotFollows else s)

/-- PRESENCE_TIMEOUT (R48, R50): the entry's presence timer, with no tick remaining, expires. A timer that a
frame has just restarted does not. -/
def execPresenceTimeout (st : StationNo) (s : State) : Host.Outcome State Fault Refusal :=
  .next (
    match s.presence.table[st] with
    | .present 0 =>
      if s.receiverOn then
        (({ s with
            presence :=
              { s.presence with table := s.presence.table.set st.val .absent st.isLt }
            events := s.events.raiseTrunk .presenceChange }).ortStationLost st).targetStationLost st
      else s
    | .present (_ + 1) => s
    | .self => s
    | .absent => s)

end Sys2Proof.Machine
end

