-- ==== Sys2Proof/Machine/Wire.lean ====
section
/-! DEFINITION. The trunk's wire formats: frames and their check (R184), the classes of a reception (R23),
the acknowledgment slot's levels and their resolution (R27, R29, R185). -/

namespace Sys2Proof.Machine

/-! ### The check -/

/-- One bit through the CRC-16 with generator x^16 + x^12 + x^5 + 1 (R184). -/
def crcBit (r : BitVec 16) (b : Bool) : BitVec 16 :=
  let shifted := r <<< 1
  if r.getLsbD 15 != b then shifted ^^^ 0x1021 else shifted

/-- One byte, most significant bit first (R184). -/
def crcByte (r : BitVec 16) (b : Byte) : BitVec 16 :=
  [7, 6, 5, 4, 3, 2, 1, 0].foldl (fun r i => crcBit r (b.getLsbD i)) r

/-- The CRC-16 over these bytes, preset to FFFFh, no final inversion (R184). -/
def crc16 (bs : List Byte) : BitVec 16 := bs.foldl crcByte 0xFFFF

/-- Appends the check as the last two bytes (R184). -/
def withCheck (bs : List Byte) : List Byte := bs ++ bytes2 (crc16 bs)

/-! ### Frames as bytes -/

/-- R184: the first byte, kind in the upper four bits and source in the lower four. -/
def kindByte (kind : Nat) (source : StationNo) : Byte := natByte (16 * kind + source.val)

/-- R184: the bytes of a request frame before its check. -/
def ReqFrame.bytes (f : ReqFrame) : List Byte :=
  match f.body with
  | .write d => kindByte 1 f.source :: bytes4 f.address ++ natByte d.length :: d
  | .writeAcked t d => kindByte 2 f.source :: natByte t.val :: bytes4 f.address ++ natByte d.length :: d
  | .read t n => kindByte 3 f.source :: natByte t.val :: bytes4 f.address ++ [natByte n]
  | .swap t c n => kindByte 4 f.source :: natByte t.val :: bytes4 f.address ++ c.toList ++ n.toList

/-- R184: the status byte of a COMPLETION. -/
def CplFrame.statusByte (f : CplFrame) : Byte :=
  (match f.status with
    | .ok => 0
    | .memoryFault => 1) ||| bitAt f.swapped 7

/-- R184: the bytes of a frame before its check. -/
def Frame.bytes : Frame → List Byte
  | .request f => f.bytes
  | .completion f =>
    kindByte 5 f.source :: natByte (16 * f.destination.val + f.tag.val) :: f.statusByte
      :: natByte f.data.length :: f.data
  | .beacon src => [kindByte 6 src]

/-- R184: a frame as it is sent between its delimiters. -/
def encodeFrame (f : Frame) : List Byte := withCheck f.bytes

/-- The lower four bits of a byte as a station number or tag. -/
def low4 (b : Byte) : Fin 16 := Fin.ofNat 16 b.toNat
/-- The upper four bits of a byte as a number. -/
def high4 (b : Byte) : Nat := b.toNat / 16

/-- R18, R184: the body of a request frame of this kind from the bytes after the first; none when it is
ill-formed. -/
def parseRequest (kind : Nat) (source : StationNo) (bs : List Byte) : Option ReqFrame :=
  let tagged := kind ≠ 1
  let at_ : Nat := if tagged then 1 else 0
  let tag := low4 (byteAt bs 0)
  let address := num4At bs at_
  let len := (byteAt bs (at_ + 4)).toNat
  let data := bs.drop (at_ + 5)
  if kind = 1 then
    if 6 ≤ bs.length ∧ data.length = len ∧ 1 ≤ len ∧ len ≤ payloadMax then
      some ⟨source, address, .write data⟩
    else none
  else if kind = 2 then
    if 7 ≤ bs.length ∧ data.length = len ∧ 1 ≤ len ∧ len ≤ payloadMax then
      some ⟨source, address, .writeAcked tag data⟩
    else none
  else if kind = 3 then
    if bs.length = 6 ∧ 1 ≤ len ∧ len ≤ payloadMax then some ⟨source, address, .read tag len⟩ else none
  else
    if bs.length = 13 then some ⟨source, address, .swap tag (word4At bs 5) (word4At bs 9)⟩ else none

/-- R18, R184: a COMPLETION from the bytes after the first; none when it is ill-formed. -/
def parseCompletion (source : StationNo) (bs : List Byte) : Option CplFrame :=
  let data := bs.drop 3
  let count := (byteAt bs 2).toNat
  let code := (byteAt bs 1 &&& 0x0F).toNat
  if 3 ≤ bs.length ∧ data.length = count ∧ count ≤ payloadMax ∧ code ≤ 1 then
    some
      { source := source
        destination := Fin.ofNat 16 (high4 (byteAt bs 0))
        tag := low4 (byteAt bs 0)
        status := if code = 0 then .ok else .memoryFault
        swapped := (byteAt bs 1).getLsbD 7
        data := data }
  else none

/-- R18, R184: a frame from its bytes before the check; none when it is ill-formed. -/
def parseFrame : List Byte → Option Frame
  | [] => none
  | first :: rest =>
    let kind := high4 first
    let source := low4 first
    if 1 ≤ kind ∧ kind ≤ 4 then (parseRequest kind source rest).map .request
    else if kind = 5 then (parseCompletion source rest).map .completion
    else if kind = 6 then (if rest = [] then some (.beacon source) else none)
    else none

/-- R184: a frame from the bytes between its delimiters: none when the check is bad or the frame is
ill-formed. -/
def decodeFrame (bs : List Byte) : Option Frame :=
  if 2 ≤ bs.length ∧ crc16 bs = 0 then parseFrame (bs.take (bs.length - 2)) else none

/-! ### The class of a reception -/

/-- How a frame ended on the line (R23): at a valid end delimiter with these whole bytes, at one with no whole
number of bytes or with damage to a bit, or at an abandon sequence or an idle line. `readLine` reads it from the
levels. -/
inductive FrameEnd where
  | delimited (bs : List Byte)
  | broken
  | cut
  deriving DecidableEq, Repr

/-- R23: the command that the reception of another station's frame is. -/
def receptionCommand : FrameEnd → Instr
  | .delimited bs =>
    match decodeFrame bs with
    | some (.request f) => .requestFrameReceived f
    | some (.completion f) => .completionFrameReceived f
    | some (.beacon src) => .beaconReceived src
    | none => .corruptReception true
  | .broken => .corruptReception true
  | .cut => .corruptReception false

/-! ### The acknowledgment slot -/

/-- The levels of a slot that nobody drives (R27). -/
def SlotCells.released : SlotCells := ⟨false, 15, 15, 3, 3⟩

/-- R27: the wired-AND of what two stations drive. -/
def SlotCells.combine (a b : SlotCells) : SlotCells where
  corrupt := a.corrupt || b.corrupt
  number := a.number &&& b.number
  complement := a.complement &&& b.complement
  code := a.code &&& b.code
  codeComplement := a.codeComplement &&& b.codeComplement

/-- R185: the codes of the code field. -/
def Decision.code : Decision → BitVec 2
  | .accept _ => 0
  | .busy => 1
  | .refuse => 2

/-- R27, R185: a claim of this station with this code. -/
def SlotCells.claim (n : StationNo) (code : BitVec 2) : SlotCells where
  corrupt := false
  number := BitVec.ofNat 4 n.val
  complement := ~~~(BitVec.ofNat 4 n.val)
  code := code
  codeComplement := ~~~code

/-- R27, R28: what the station drives in a slot for these marks. -/
def Mark.cells (own : StationNo) : Mark → SlotCells
  | .none => SlotCells.released
  | .corrupt => { SlotCells.released with corrupt := true }
  | .claim c => SlotCells.claim own c.decision.code
  | .completion => SlotCells.claim own 0

/-- R185: the thirteen cells in order, first cell in the top bit; dominant is 0. -/
def SlotCells.toBits (c : SlotCells) : BitVec 13 :=
  (if c.corrupt then (0 : BitVec 1) else 1) ++ c.number ++ c.complement ++ c.code ++ c.codeComplement

/-- R185: a slot from its thirteen cells. -/
def SlotCells.ofBits (b : BitVec 13) : SlotCells where
  corrupt := !b.getLsbD 12
  number := b.extractLsb' 8 4
  complement := b.extractLsb' 4 4
  code := b.extractLsb' 2 2
  codeComplement := b.extractLsb' 0 2

/-- The outcome of a slot (R29), with the claiming station. -/
inductive SlotOutcome where
  | accept (n : StationNo)
  | busy (n : StationNo)
  | refuse (n : StationNo)
  | corrupt | conflict | silent
  deriving DecidableEq, Repr

/-- R29: the outcome of the slot as read; the first row of its table that applies. -/
def SlotCells.resolve (c : SlotCells) : SlotOutcome :=
  if c.corrupt = true then .corrupt
  else if (c.number = 15 ∧ c.complement = 15) ∧ (c.code = 3 ∧ c.codeComplement = 3) then .silent
  else if c.complement = ~~~c.number ∧ c.codeComplement = ~~~c.code then
    match c.code.toNat with
    | 0 => .accept (Fin.ofNat 16 c.number.toNat)
    | 1 => .busy (Fin.ofNat 16 c.number.toNat)
    | 2 => .refuse (Fin.ofNat 16 c.number.toNat)
    | _ => .conflict
  else .conflict

/-- The outcome of a completion's slot as the Target Engine gets it (R34). -/
inductive CompletionOutcome where
  | accept | corrupt | silent
  deriving DecidableEq, Repr

/-- R34: the reduction, for a completion with this destination. -/
def SlotOutcome.reduce (destination : StationNo) : SlotOutcome → CompletionOutcome
  | .accept n => if n = destination then .accept else .silent
  | .corrupt => .corrupt
  | .busy _ => .silent
  | .refuse _ => .silent
  | .conflict => .silent
  | .silent => .silent

end Sys2Proof.Machine
end

