-- ==== Sys2Proof/Machine/Slots.lean ====
section
/-! DEFINITION. The acknowledgment slot at the station (R30 to R34): the marks it drives, the read-back of
its claim (R59), and the outcome handed to the block that sent the frame (R66, R94 to R99); the rows
SLOT_BEGIN and SLOT_END. -/

namespace Sys2Proof.Machine

/-- SLOT_BEGIN (R30): the marks decided are driven if the station is still ONLINE or DRAINING. -/
def execSlotBegin (s : State) : Host.Outcome State Fault Refusal :=
  .next (
    match s.tif.exchange with
    | none => s
    | some e =>
      if e.begun then s
      else
        { s with
          tif :=
            { s.tif with
              exchange :=
                some { e with mark := if s.onTrunk then e.mark else .none, begun := true } } })

/-- The levels that the station drives in the slot now (R27, R28). -/
def State.drives (s : State) : SlotCells :=
  match s.tif.exchange with
  | none => SlotCells.released
  | some e => if e.begun then e.mark.cells e.number else SlotCells.released

/-- R59: the request is accepted: a service entry, its response reservation for a non-posted request, its
notify hold for a notify write. -/
def State.acceptRequest (s : State) (c : Claim) (dest : Dest) : State :=
  let nonPosted := c.frame.body.tag.isSome
  let notify :=
    match dest with
    | .memory _ => false
    | .notify _ => true
  { s with
    target :=
      { s.target with
        service :=
          s.target.service ++
            [{ request := c.frame, window := c.window, dest := dest,
               reservation := if nonPosted then .live lifetimeTicks else .none,
               notifyHold := notify }]
        nonPosted := if nonPosted then s.target.nonPosted + 1 else s.target.nonPosted }
    mailbox :=
      { s.mailbox with
        reserved := if notify then s.mailbox.reserved + 1 else s.mailbox.reserved } }

/-- R15: the conflict recorded against the matched window, and WINDOW_CONFLICT raised. -/
def State.recordConflict (s : State) (w : WindowIdx) : State :=
  { s with
    windows := s.windows.set w.val (s.windows[w]).recordConflict w.isLt
    events := s.events.raiseTrunk .windowConflict }

/-- R31: what a claimant does with the outcome it reads back. -/
def State.readBack (s : State) (mark : Mark) (out : SlotOutcome) : State :=
  match mark with
  | .claim c =>
    match out, c.decision with
    | .conflict, _ => s.recordConflict c.window
    | .accept n, .accept dest =>
      if n = s.ctl.number ∧ s.onTrunk = true then s.acceptRequest c dest else s
    | _, _ => s
  | .none => s
  | .corrupt => s
  | .completion => s

/-- R94 to R99: the outcome of a request frame at the entry that sent it, when that is still READY. -/
def State.requestOutcome (s : State) (t : Tag) (out : SlotOutcome) : State :=
  let e := s.entry t
  if e.state = .ready then
    match out with
    | .accept n =>
      match e.op with
      | .write => s.enterDone t { e with target := some n } .ok
      | _ =>
        { s.setEntry t { e with target := some n, state := .awaiting s.ctl.ct.toNat } with
          issue :=
            { s.issue with unsent := s.issue.unsent.filter (fun u => decide (u ≠ t)) } }
    | .busy n =>
      if e.busyRetries < busyRetryLimit then
        s.setEntry t
          { e with
            busyRetries := e.busyRetries + 1, state := .hold (4 * (e.busyRetries + 1)) }
      else s.enterDone t { e with target := some n } .busyExhausted
    | .refuse n => s.enterDone t { e with target := some n } .denied
    | .corrupt =>
      if e.corruptResends < corruptResendLimit then
        s.setEntry t { e with corruptResends := e.corruptResends + 1 }
      else s.enterDone t e .corruptExhausted
    | .conflict => s.enterDone t e .conflict
    | .silent => s.enterDone t e .unclaimed
  else s

/-- R66, R68: the reduced outcome of a completion's slot at the response it was sent for; when an expiry or a
notice has removed that response, the outcome is ignored. -/
def State.completionOutcome (s : State) (out : CompletionOutcome) : State :=
  match s.target.responses with
  | [] => s
  | r :: rest =>
    if r.onTrunk then
      match out with
      | .accept => s.removeResponse 0
      | .silent => s.dropResponse 0
      | .corrupt =>
        if r.resends < corruptResendLimit then
          { s with
            target :=
              { s.target with
                responses := { r with resends := r.resends + 1, onTrunk := false } :: rest } }
        else s.dropResponse 0
    else s

/-- R22, R32, R34: the outcome is handed to the block that sent the frame. -/
def State.handOutcome (s : State) (sender : Option Origin) (out : SlotOutcome) : State :=
  match sender with
  | none => s
  | some (.request t) => s.requestOutcome t out
  | some (.completion d) => s.completionOutcome (out.reduce d)
  | some .beacon => s

/-- The slot has ended, and the exchange with it. When the CORRUPT mark is decided for the slot of a frame that
ended meanwhile, that slot is the next (log entry 10). -/
def Tif.slotEnded (t : Tif) (number : StationNo) : Tif :=
  { t with
    exchange := if t.corruptNext then some ⟨none, .corrupt, false, number⟩ else none
    corruptNext := false }

/-- SLOT_END (R29): the slot as read is resolved; the one outcome goes to the station's claim and to the
block that sent the frame, and the exchange is over. -/
def execSlotEnd (cells : SlotCells) (s : State) : Host.Outcome State Fault Refusal :=
  .next (
    match s.tif.exchange with
    | none => s
    | some e =>
      if e.begun then
        let s1 := (s.readBack e.mark cells.resolve).handOutcome e.sender cells.resolve
        { s1 with tif := s1.tif.slotEnded s1.ctl.number }
      else s)

end Sys2Proof.Machine
end

