-- ==== Sys2Proof/Machine/TrunkAccess.lean ====
section
/-! DEFINITION. Trunk access (chapter 3): rounds, what the station offers in its slots, own frames sent or
collided, beacons; the rows CONTENTION_SLOT, ROUND_OPEN, START_DELIMITER_SEEN, OWN_FRAME_SENT, COLLISION,
BEACON_TIMER_EXPIRY. -/

namespace Sys2Proof.Machine

/-- R38: the station's position with rotation point L, (own − L − 1) mod 16. -/
def position (own rotation : StationNo) : StationNo := own - rotation - 1

/-- R19: the request frame built from an ORT entry as it stands. -/
def requestFrame (own : StationNo) (t : Tag) (e : OrtEntry) : ReqFrame where
  source := own
  address := e.address
  body :=
    match e.op with
    | .write => .write (e.buffer.take e.length)
    | .writeAcked => .writeAcked t (e.buffer.take e.length)
    | .read => .read t e.length
    | .swap =>
      .swap t (e.compareValue.getD (Vector.replicate 4 0)) (e.newValue.getD (Vector.replicate 4 0))

/-- R20: the completion frame built from a response entry. -/
def completionFrame (own : StationNo) (r : ResponseEntry) : CplFrame where
  source := own
  destination := r.destination
  tag := r.tag
  status := r.status
  swapped := r.swapped
  data := r.data

/-- R38: the completion the station has to offer, that at the head of the response queue. -/
def State.offerCompletion (s : State) : Option Transmission :=
  s.target.responses.head?.map (fun r =>
    ⟨.completion (completionFrame s.ctl.number r), .completion r.destination⟩)

/-- R88: the request the station has to offer, that of the first entry of the unsent list if it is READY. -/
def State.offerRequest (s : State) : Option Transmission :=
  match s.issue.unsent.head? with
  | none => none
  | some t =>
    if (s.entry t).state = .ready then
      some ⟨.request (requestFrame s.ctl.number t (s.entry t)), .request t⟩
    else none

/-- R45: the queued beacon. -/
def State.offerBeacon (s : State) : Option Transmission :=
  if s.presence.beaconQueued then some ⟨.beacon s.ctl.number, .beacon⟩ else none

/-- R38: what the station offers in this slot of the round. -/
def State.offer (s : State) (slot : Fin 48) : Option Transmission :=
  match s.access.sync with
  | .inSync =>
    let p := (position s.ctl.number s.access.rotation).val
    if slot.val = p then s.offerCompletion
    else if slot.val = 16 + p then s.offerRequest <|> s.offerBeacon
    else none
  | .lost =>
    if slot.val = 32 + s.ctl.number.val then
      s.offerCompletion <|> s.offerRequest <|> s.offerBeacon
    else none

/-- The head of the response queue, its frame being on the trunk. -/
def markHeadOnTrunk : List ResponseEntry → List ResponseEntry
  | [] => []
  | r :: rest => { r with onTrunk := true } :: rest

/-- R39: the station starts a frame in its slot, and the round ends. -/
def State.startFrame (s : State) (tx : Transmission) : State :=
  { s with
    tif := Tif.busyWith (some tx)
    target :=
      match tx.origin with
      | .completion _ => { s.target with responses := markHeadOnTrunk s.target.responses }
      | .request _ => s.target
      | .beacon => s.target }

/-- R39: a slot of the round begins with the trunk idle: it is counted, and the station starts the frame it
offers in it, if it is ONLINE or DRAINING. -/
def State.beginSlot (s : State) (slot : Fin 48) : State :=
  match (if s.onTrunk then s.offer slot else none) with
  | some tx => s.startFrame tx
  | none => { s with tif := { s.tif with trunk := .idle (slot.val + 1) } }

/-- R37: the station counts the slots of its round: its receiver is on, and it is in no exchange. -/
def State.countsSlots (s : State) : Bool := s.receiverOn && s.tifQuiet

/-- CONTENTION_SLOT (R37 to R39): the next slot of the round begins; the slots begin one after the other, from 0 to
47. While the trunk is busy no slot begins. -/
def execContentionSlot (slot : Fin 48) (s : State) : Host.Outcome State Fault Refusal :=
  .next (
    match s.tif.trunk with
    | .busy => s
    | .idle next => if slot.val = next ∧ s.countsSlots = true then s.beginSlot slot else s)

/-- R37: a round can open: the trunk has been busy, with no frame incoming and no slot still to end, or all slots of
the round before have passed. -/
def Tif.roundDue (t : Tif) : Bool :=
  !t.incoming && decide (t.exchange = none) &&
    (match t.trunk with
    | .busy => true
    | .idle next => decide (next = roundSlots))

/-- ROUND_OPEN (R37): the trunk has become idle, or slot 47 has ended, and a new round opens. A round in progress
goes on. -/
def execRoundOpen (s : State) : Host.Outcome State Fault Refusal :=
  .next (
    if s.countsSlots && s.tif.roundDue then { s with tif := { s.tif with trunk := .idle 0 } } else s)

/-- START_DELIMITER_SEEN (R23, R37): another station's frame has started: the receiver takes it, and the round
ends. A receiver that is off sees none, and a station that transmits watches its own frame alone (R24). -/
def execStartDelimiterSeen (s : State) : Host.Outcome State Fault Refusal :=
  .next (
    if s.receiverOn && decide (s.tif.tx = none) then
      { s with tif := { s.tif with incoming := true, trunk := .busy } }
    else s)

/-- R43, R44, R45: an own transmission: collision count 0, beacon timer restarted, beacon off the queue. -/
def State.ownTransmission (s : State) : State :=
  { s with
    access := { s.access with collisions := 0 }
    presence := { s.presence with beaconTimer := .running beaconInterval, beaconQueued := false } }

/-- OWN_FRAME_SENT (R23, R25, R43): the own frame has been sent without a mismatch; it is handled as a clean
reception. After ABORT or entry to DETACHED the Access Unit and the beacon timer take nothing from it, and
it is handed to no block, or to the Presence Monitor alone (R22). -/
def execOwnFrameSent (s : State) : Host.Outcome State Fault Refusal :=
  .next (
    match s.tif.tx with
    | none => s
    | some tx =>
      let s1 : State := { s with tif := Tif.busyWith none }
      if s.onTrunk then s1.ownTransmission.receive tx.frame (some tx.origin)
      else if s.ctl.station = .detached then s1.receive tx.frame (some tx.origin)
      else s1.afterFrame tx.frame (some tx.origin) .none)

/-- R42: a collision of an own frame at the Access Unit; the fourth in a row detaches the station. -/
def State.accessCollision (s : State) : State :=
  let s1 := s.loseSync
  let n := min collisionLimit (s1.access.collisions + 1)
  let s2 : State := { s1 with access := { s1.access with collisions := n } }
  if n = collisionLimit then s2.detach .collisionLimit else s2

/-- COLLISION (R24): the frame is abandoned, with no slot and no outcome, and stays first in its queue. After
ABORT or entry to DETACHED it is counted and nothing more (R22). -/
def execCollision (s : State) : Host.Outcome State Fault Refusal :=
  .next (
    match s.tif.tx with
    | none => s
    | some _ =>
      let s1 : State :=
        { s with
          tif := Tif.busyWith none
          target :=
            { s.target with
              responses := s.target.responses.map (fun r => { r with onTrunk := false }) }
          events := s.events.countCollision }
      if s.onTrunk then s1.accessCollision else s1)

/-- BEACON_TIMER_EXPIRY (R44): the timer has no tick remaining: a beacon is queued, and the timer stays
expired. -/
def execBeaconTimerExpiry (s : State) : Host.Outcome State Fault Refusal :=
  .next (
    match s.presence.beaconTimer with
    | .running 0 =>
      if s.onTrunk then
        { s with presence := { s.presence with beaconTimer := .expired, beaconQueued := true } }
      else s
    | .running (_ + 1) => s
    | .stopped => s
    | .expired => s)

end Sys2Proof.Machine
end

