-- ==== Sys2Proof/Machine/Dispatch.lean ====
section
/-! DEFINITION. The dispatch: one arm for each command, each one call of its meaning. -/

namespace Sys2Proof.Machine

/-- The effect of a command on everything but the queue of commands. -/
def exec (i : Instr) (s : State) : Host.Outcome State Fault Refusal :=
  match i with
  | .pinReset => Sys2Proof.Machine.execPinReset s
  | .resetRelease => Sys2Proof.Machine.execResetRelease s
  | .endOfLoading eeprom straps => Sys2Proof.Machine.execEndOfLoading eeprom straps s
  | .hostFrameStart => Sys2Proof.Machine.execHostFrameStart s
  | .hostFrameEnd => Sys2Proof.Machine.execHostFrameEnd s
  | .status => Sys2Proof.Machine.execStatus s
  | .submit d => Sys2Proof.Machine.execSubmit d s
  | .takeCompletion => Sys2Proof.Machine.execTakeCompletion s
  | .takeNotify => Sys2Proof.Machine.execTakeNotify s
  | .readEvents => Sys2Proof.Machine.execReadEvents s
  | .ackEvents categories => Sys2Proof.Machine.execAckEvents categories s
  | .setMask categories => Sys2Proof.Machine.execSetMask categories s
  | .setThreshold value => Sys2Proof.Machine.execSetThreshold value s
  | .setLineMode code => Sys2Proof.Machine.execSetLineMode code s
  | .readPresence => Sys2Proof.Machine.execReadPresence s
  | .readCounters => Sys2Proof.Machine.execReadCounters s
  | .clearCounters counters => Sys2Proof.Machine.execClearCounters counters s
  | .readFault => Sys2Proof.Machine.execReadFault s
  | .configRead item => Sys2Proof.Machine.execConfigRead item s
  | .configWrite value => Sys2Proof.Machine.execConfigWrite value s
  | .join => Sys2Proof.Machine.execJoin s
  | .leave => Sys2Proof.Machine.execLeave s
  | .abort => Sys2Proof.Machine.execAbort s
  | .restart => Sys2Proof.Machine.execRestart s
  | .contentionSlot slot => Sys2Proof.Machine.execContentionSlot slot s
  | .roundOpen => Sys2Proof.Machine.execRoundOpen s
  | .slotBegin => Sys2Proof.Machine.execSlotBegin s
  | .slotEnd cells => Sys2Proof.Machine.execSlotEnd cells s
  | .ownFrameSent => Sys2Proof.Machine.execOwnFrameSent s
  | .collision => Sys2Proof.Machine.execCollision s
  | .requestFrameReceived f => Sys2Proof.Machine.execRequestFrameReceived f s
  | .completionFrameReceived f => Sys2Proof.Machine.execCompletionFrameReceived f s
  | .beaconReceived source => Sys2Proof.Machine.execBeaconReceived source s
  | .corruptReception slotFollows => Sys2Proof.Machine.execCorruptReception slotFollows s
  | .presenceTimeout st => Sys2Proof.Machine.execPresenceTimeout st s
  | .beaconTimerExpiry => Sys2Proof.Machine.execBeaconTimerExpiry s
  | .joinHoldoffExpiry => Sys2Proof.Machine.execJoinHoldoffExpiry s
  | .holdoffExpiry t => Sys2Proof.Machine.execHoldoffExpiry t s
  | .completionTimeout t => Sys2Proof.Machine.execCompletionTimeout t s
  | .quarantineExpiry t => Sys2Proof.Machine.execQuarantineExpiry t s
  | .lifetimeExpiry place => Sys2Proof.Machine.execLifetimeExpiry place s
  | .issue => Sys2Proof.Machine.execIssue s
  | .placeRecord => Sys2Proof.Machine.execPlaceRecord s
  | .memoryGrant => Sys2Proof.Machine.execMemoryGrant s
  | .wordAccessComplete otherSide => Sys2Proof.Machine.execWordAccessComplete otherSide s
  | .waitTimerExpiry => Sys2Proof.Machine.execWaitTimerExpiry s
  | .notifyService => Sys2Proof.Machine.execNotifyService s
  | .endOfDraining => Sys2Proof.Machine.execEndOfDraining s
  | .hintPulseEnd => Sys2Proof.Machine.execHintPulseEnd s
  | .startDelimiterSeen => Sys2Proof.Machine.execStartDelimiterSeen s
  | .hostByteComplete b => Sys2Proof.Machine.execHostByteComplete b s

end Sys2Proof.Machine
end

