-- ==== Sys2Proof/Machine/Ticks.lean ====
section
/-! DEFINITION. What passes with no command waiting (log entry 7): the rest of the wait limit of a word access, or a
tick, 64 µs of the reference clock, in which every running tick timer has one tick less remaining. A timer with
none remaining is due, and its expiry is taken as its own command. -/

namespace Sys2Proof.Machine

/-- One tick of an ORT entry's timer. -/
def EntryState.tick : EntryState → EntryState
  | .hold n => .hold (n - 1)
  | .awaiting n => .awaiting (n - 1)
  | .stale n => .stale (n - 1)
  | .free => .free
  | .fetching => .fetching
  | .ready => .ready
  | .storing => .storing
  | .done => .done

/-- One tick of a presence timer. -/
def Presence.tick : Presence → Presence
  | .present n => .present (n - 1)
  | .self => .self
  | .absent => .absent

/-- One tick of the beacon timer. -/
def BeaconTimer.tick : BeaconTimer → BeaconTimer
  | .running n => .running (n - 1)
  | .stopped => .stopped
  | .expired => .expired

/-- One tick of a reservation's lifetime. -/
def Reservation.tick : Reservation → Reservation
  | .live n => .live (n - 1)
  | .none => .none
  | .expired => .expired

/-- One tick of the station. A held station counts none (R170). -/
def State.tick (s : State) : State :=
  if s.held then s
  else
    { s with
      ctl := { s.ctl with joinHoldoff := s.ctl.joinHoldoff.map (· - 1) }
      presence :=
        { s.presence with
          table := s.presence.table.map Presence.tick
          beaconTimer := s.presence.beaconTimer.tick }
      target :=
        { s.target with
          service := s.target.service.map (fun e => { e with reservation := e.reservation.tick })
          responses := s.target.responses.map (fun r => { r with lifetime := r.lifetime - 1 }) }
      ort :=
        { s.ort with entries := s.ort.entries.map (fun e => { e with state := e.state.tick }) } }

/-- R133: the time that the access of this operation may still wait passes. It is less than a tick. -/
def State.waitOut (s : State) (op : MemOp) : State := { s with port := some { op with wait := 0 } }

/-- What passes with no command waiting: the rest of the wait limit, while a word access waits for MREADY, and
otherwise one tick. -/
def State.idle (s : State) : State :=
  match s.port with
  | some op => if op.wait = 0 then s.tick else s.waitOut op
  | none => s.tick

end Sys2Proof.Machine
end

