-- ==== Sys2Proof/Machine/Step.lean ====
section
/-! DEFINITION. One step of the station, and placing the command that a word spells at the front of its
queue. -/

namespace Sys2Proof.Machine

/-- One step: the command at the front of the queue is taken from it and has its effect; with no command
waiting, the rest of a wait limit passes, or one tick of 64 µs (log entries 1 and 7). -/
def step (s : State) : Host.Outcome State Fault Refusal :=
  match s.pending with
  | [] => .next s.idle
  | c :: rest => exec c { s with pending := rest }

/-- The command that a word spells by the bits of the opcode table, put at the front of the queue; `s`
unchanged where the word spells none (log entry 1). -/
def State.withFetchWord (s : State) (nbits w : Nat) : State :=
  match decodeTableWord nbits w with
  | some c => { s with pending := c :: s.pending }
  | none => s

end Sys2Proof.Machine
end

