-- ==== Sys2Proof/Machine/Line.lean ====
section
/-! DEFINITION. The line code of a frame (R184): bit cells and delimiters as levels on the trunk, what a receiver
reads from them (R23), and what a station that transmits drives and sees (R24). The cells are counted from the
start delimiter; log entry 14 leaves their times out. -/

namespace Sys2Proof.Machine

/-! ### Levels and cells -/

/-- The level of the trunk (R184): it idles recessive, and any driver can pull it dominant. -/
inductive Level where
  | dominant | recessive
  deriving DecidableEq, Repr

/-- R24, R184: the level that the line shows when two stations drive it. -/
def Level.combine : Level → Level → Level
  | .recessive, .recessive => .recessive
  | .recessive, .dominant => .dominant
  | .dominant, _ => .dominant

/-- A bit cell of 125 ns by its two halves (R184). -/
structure LineCell where
  first : Level
  second : Level
  deriving DecidableEq, Repr

/-- What the line shows in a cell in which two stations drive these halves. -/
def LineCell.combine (a b : LineCell) : LineCell := ⟨a.first.combine b.first, a.second.combine b.second⟩

/-- A cell with the line dominant throughout. -/
def LineCell.dominant : LineCell := ⟨.dominant, .dominant⟩

/-- A cell with the line recessive throughout, as on an idle trunk. -/
def LineCell.recessive : LineCell := ⟨.recessive, .recessive⟩

/-- R184: a 0 bit is dominant in the first half of its cell, a 1 bit in the second. -/
def LineCell.ofBit : Bool → LineCell
  | false => ⟨.dominant, .recessive⟩
  | true => ⟨.recessive, .dominant⟩

/-- R184: the bit of a cell; none for a cell that has not one dominant half and one recessive half. -/
def LineCell.bit : LineCell → Option Bool
  | ⟨.dominant, .recessive⟩ => some false
  | ⟨.recessive, .dominant⟩ => some true
  | ⟨.dominant, .dominant⟩ => none
  | ⟨.recessive, .recessive⟩ => none

/-! ### Frames as cells -/

/-- R184: a dominant level held for two cells. -/
def startDelimiter : List LineCell := [.dominant, .dominant]

/-- R184: a recessive level held for two cells, followed by one dominant cell. -/
def endDelimiter : List LineCell := [.recessive, .recessive, .dominant]

/-- R24, R184: a dominant level held for sixteen cells. -/
def abandonSequence : List LineCell := List.replicate 16 .dominant

/-- The line recessive for four cells, which is counted idle: R184 says so behind an abandon sequence. DESIGN CHOICE
(log entry 14): the same number behind a frame that was cut short without one, of which no rule gives a number. -/
def idleLine : List LineCell := List.replicate 4 .recessive

/-- R184: the bits of a byte, most significant bit first. -/
def byteBits (b : Byte) : List Bool := [7, 6, 5, 4, 3, 2, 1, 0].map (fun i => b.getLsbD i)

/-- R184: the cells of these bytes. -/
def byteCells (bs : List Byte) : List LineCell := (bs.flatMap byteBits).map LineCell.ofBit

/-- R184: a frame of these bytes on the line: start delimiter, whole bytes, end delimiter. -/
def lineOf (bs : List Byte) : List LineCell := startDelimiter ++ byteCells bs ++ endDelimiter

/-! ### The receiver -/

/-- The bytes of a run of bits, eight at a time, most significant bit first. -/
def packBytes : List Bool → List Byte
  | b7 :: b6 :: b5 :: b4 :: b3 :: b2 :: b1 :: b0 :: rest =>
    BitVec.ofBoolListBE [b7, b6, b5, b4, b3, b2, b1, b0] :: packBytes rest
  | _ => []

/-- R23, R184: a frame whose valid end delimiter came after these cells. A cell without a bit is damage, and the
frame is then corrupt, as one with no whole number of bytes is (log entry 14). -/
def frameEndOf (cells : List LineCell) : FrameEnd :=
  if cells.all (fun c => c.bit.isSome) && decide (cells.length % 8 = 0) then
    .delimited (packBytes (cells.map (fun c => c.bit.getD false)))
  else .broken

/-- R23, R184: how the frame whose start delimiter has passed ends, with the cells taken so far: at its end
delimiter, at an abandon sequence, or at an idle line (DESIGN CHOICE, log entry 14: four recessive cells here too);
none while it has not ended. -/
def readCells (taken : List LineCell) : List LineCell → Option FrameEnd
  | [] => none
  | c :: rest =>
    if endDelimiter.isPrefixOf (c :: rest) then some (frameEndOf taken)
    else if abandonSequence.isPrefixOf (c :: rest) || idleLine.isPrefixOf (c :: rest) then some .cut
    else readCells (taken ++ [c]) rest

/-- R23: how the first frame on the line from an idle moment on ends. A frame that does not begin with a start
delimiter is not received. -/
def readLine : List LineCell → Option FrameEnd
  | [] => none
  | c :: rest =>
    if c = .recessive then readLine rest
    else if startDelimiter.isPrefixOf (c :: rest) then readCells [] (rest.drop 1)
    else none

/-- R23, R37: the commands that a frame of another station on the line is, at a station whose receiver is on:
its start delimiter, and its reception. -/
def lineCommands (line : List LineCell) : List Instr :=
  match readLine line with
  | none => []
  | some e => [.startDelimiterSeen, receptionCommand e]

/-! ### The station that transmits -/

/-- R24: what the station drives of these cells while the others drive theirs: at the first mismatch it ends
with the abandon sequence. -/
def driveOn : List LineCell → List LineCell → List LineCell
  | [], _ => []
  | own, [] => own
  | c :: own, o :: others =>
    if c.combine o = c then c :: driveOn own others else c :: abandonSequence

/-- R24: the own-transmission monitor sees a mismatch in one of these cells. -/
def seesMismatch : List LineCell → List LineCell → Bool
  | c :: own, o :: others => decide (c.combine o ≠ c) || seesMismatch own others
  | [], _ => false
  | _ :: _, [] => false

/-- R24: the command that the end of an own frame is. -/
def ownCommand (own others : List LineCell) : Instr :=
  if seesMismatch own others then .collision else .ownFrameSent

end Sys2Proof.Machine
end

