-- ==== Sys2Proof/Safety.lean ====
section
/-! DEFINITION. What the statements speak of: the laws that the manual states of the station, each as a
predicate on one state; the doors between station states; when the host port takes a command; and the
tables of the manual that a statement reads off. -/

namespace Sys2Proof.Machine

/-! ### The target side: reservation law (R53), queue laws (R52, R126), mailbox law (R127) -/

/-- The claim with ACCEPT that this station has decided and not yet read back (R56, R59). -/
def State.acceptPending (s : State) : Option (Claim × Dest) :=
  match s.tif.exchange with
  | none => none
  | some e =>
    match e.mark with
    | .claim c =>
      match c.decision with
      | .accept dest => some (c, dest)
      | .busy => none
      | .refuse => none
    | .none => none
    | .corrupt => none
    | .completion => none

/-- The service place that the claim not yet read back will take. -/
def State.servicePending (s : State) : Nat := if s.acceptPending.isSome then 1 else 0

/-- The response reservation that the claim not yet read back will take. -/
def State.responsePending (s : State) : Nat :=
  match s.acceptPending with
  | some (c, _) => if c.frame.body.tag.isSome then 1 else 0
  | none => 0

/-- The notify place that the claim not yet read back will hold. -/
def State.notifyPending (s : State) : Nat :=
  match s.acceptPending with
  | some (_, .notify _) => 1
  | some (_, .memory _) => 0
  | none => 0

/-- The reservation is live. -/
def Reservation.isLive : Reservation → Bool
  | .live _ => true
  | .none => false
  | .expired => false

/-- The entry is for a NOTIFY window. -/
def Dest.isNotify : Dest → Bool
  | .notify _ => true
  | .memory _ => false

/-- The laws of the target side. -/
structure TargetLaw (s : State) : Prop where
  /-- R53: the count is the number of reservations made and not released. -/
  counted : s.target.nonPosted =
    s.target.service.countP (fun e => e.reservation.isLive) + s.target.responses.length
  /-- R53: the reservation law, with the claim not yet read back. -/
  reservations : s.target.nonPosted + s.responsePending ≤ 8
  /-- R52: the service queue holds at most 8 entries, with the claim not yet read back. -/
  places : s.target.service.length + s.servicePending ≤ 8
  /-- R127: the notify reservation is the number of notify entries accepted and not served. -/
  held : s.mailbox.reserved = s.target.service.countP (fun e => e.notifyHold)
  /-- R127: the mailbox law, with the claim not yet read back. -/
  mailbox : s.mailbox.records.length + s.mailbox.reserved + s.notifyPending ≤ 16
  /-- R52: a reservation is present for a non-posted request alone, a notify hold for a notify write alone. -/
  entries : ∀ e ∈ s.target.service,
    (e.reservation ≠ .none ↔ e.request.body.tag.isSome = true) ∧ e.notifyHold = e.dest.isNotify
  /-- R60: the target operation in flight whose result is wanted serves the head, a MEMORY entry. -/
  inFlight : ∀ op, s.port = some op → op.requester = .target → op.discard = false →
    ∃ e rest, s.target.service = e :: rest ∧ e.dest.isNotify = false
  /-- R70: outside ONLINE and DRAINING both queues are empty. -/
  offTrunk : s.onTrunk = false → s.target.service = [] ∧ s.target.responses = []

/-! ### The initiator side: tag law (R92), unsent list (R87), retire list (R120) -/

/-- R87: the entry is in FETCHING, READY or HOLD and carries no ending mark. -/
def OrtEntry.onUnsent (e : OrtEntry) : Bool :=
  match e.state with
  | .fetching => !e.endingMark
  | .ready => !e.endingMark
  | .hold _ => !e.endingMark
  | .free => false
  | .awaiting _ => false
  | .storing => false
  | .done => false
  | .stale _ => false

/-- The entry is FETCHING, READY or HOLD (R89). -/
def OrtEntry.unsentState (e : OrtEntry) : Bool :=
  match e.state with
  | .fetching => true
  | .ready => true
  | .hold _ => true
  | .free => false
  | .awaiting _ => false
  | .storing => false
  | .done => false
  | .stale _ => false

/-- The entry is AWAITING (R91). -/
def OrtEntry.isAwaiting (e : OrtEntry) : Bool :=
  match e.state with
  | .awaiting _ => true
  | _ => false

/-- The laws of the initiator side. -/
structure OrtLaw (s : State) : Prop where
  /-- R90: every entry not FREE has one issue position. -/
  orderNodup : s.ort.issueOrder.Nodup
  ordered : ∀ t, t ∈ s.ort.issueOrder ↔ (s.entry t).state ≠ .free
  /-- R87: the unsent list is the list of these tags in issue order. -/
  unsent : s.issue.unsent = s.ort.issueOrder.filter (fun t => (s.entry t).onUnsent)
  /-- R120: the retire list holds the tags of the entries in DONE, none twice. -/
  retireNodup : s.completion.retire.Nodup
  retired : ∀ t, t ∈ s.completion.retire ↔ (s.entry t).state = .done
  /-- R109: a DONE entry has its result status. -/
  result : ∀ t, (s.entry t).state = .done → (s.entry t).result.isSome = true
  /-- R91, R95: an entry AWAITING has a target, and is not a posted WRITE. -/
  awaiting : ∀ t, (s.entry t).isAwaiting = true →
    (s.entry t).target.isSome = true ∧ (s.entry t).op ≠ .write
  /-- R103: only the data of a READ is stored. -/
  storing : ∀ t, (s.entry t).state = .storing → (s.entry t).op = .read
  /-- R90: the greatest counts of retries and resends. -/
  counts : ∀ t, (s.entry t).busyRetries ≤ 8 ∧ (s.entry t).corruptResends ≤ 3
  /-- R83: at most one entry is FETCHING. -/
  oneFetch : ∀ t u, (s.entry t).state = .fetching → (s.entry u).state = .fetching → t = u
  /-- R114: the ending mark is carried only off the trunk, while the memory operation is in flight. -/
  marked : ∀ t, (s.entry t).endingMark = true →
    s.onTrunk = false ∧ s.granted t = true
      ∧ ((s.entry t).state = .fetching ∨ (s.entry t).state = .storing)
  /-- R85, R107: a fetch in flight is that of an entry FETCHING, a store that of an entry STORING. -/
  port : ∀ op, s.port = some op →
    (∀ t, op.requester = .fetch t → (s.entry t).state = .fetching)
      ∧ (∀ t, op.requester = .store t → (s.entry t).state = .storing)
  /-- R113: outside ONLINE and DRAINING an entry is FREE, DONE, or carries the ending mark. -/
  offTrunk : s.onTrunk = false → ∀ t,
    (s.entry t).state = .free ∨ (s.entry t).state = .done ∨ (s.entry t).endingMark = true
  /-- R93: in LOADING and in JOINING every entry is FREE. -/
  clear : s.ctl.station = .loading ∨ s.ctl.station = .joining → ∀ t, (s.entry t).state = .free

/-! ### The other blocks -/

/-- A trunk address lies in the window's range (R2). -/
def WindowConfig.holds (w : WindowConfig) (address : Nat) : Prop :=
  w.trunkBase.toNat ≤ address ∧ address < w.trunkBase.toNat + w.length.toNat

/-- R16, R166: the law of a table that has passed the JOIN checks: no two enabled windows share a trunk
address, every enabled MEMORY window lies within local memory, and CT lies in 640..4095. -/
def State.tableLawful (s : State) : Prop :=
  (∀ i j : WindowIdx, i ≠ j → (s.windows[i]).config.enabled = true → (s.windows[j]).config.enabled = true →
      ∀ a, ¬ ((s.windows[i]).config.holds a ∧ (s.windows[j]).config.holds a))
    ∧ (∀ i : WindowIdx, (s.windows[i]).config.enabled = true → (s.windows[i]).config.kind = .memory →
        (s.windows[i]).config.localBase.toNat + (s.windows[i]).config.length.toNat ≤ 262144)
    ∧ 640 ≤ s.ctl.ct.toNat ∧ s.ctl.ct.toNat ≤ 4095

/-- The laws of the other blocks. -/
structure StationLaw (s : State) : Prop where
  /-- R170: a held station is in LOADING with every block at its reset values; the working configuration,
  the load result, HSEL#, local memory, the queue of commands and the count of free values are not told. -/
  held : s.held = true →
    s = { State.reset with
          pending := s.pending
          held := true
          ctl := { s.ctl with station := .loading, joinHoldoff := none }
          windows := s.windows
          host := { State.reset.host with selected := s.host.selected }
          localMem := s.localMem
          freeIndex := s.freeIndex }
  /-- R46: outside LOADING the entry of the own number, and no other, is SELF. -/
  self : s.ctl.station ≠ .loading → ∀ n, s.presence.table[n] = .self ↔ n = s.ctl.number
  /-- R46, R160: in CONFIG every other entry is ABSENT. -/
  deaf : s.ctl.station = .config → ∀ n, n ≠ s.ctl.number → s.presence.table[n] = .absent
  /-- R16: the table law, from entry to JOINING until the station is back in CONFIG or LOADING. -/
  table : s.ctl.station ≠ .loading → s.ctl.station ≠ .config → s.tableLawful
  /-- R169: the wait limit lies in 1..15. -/
  waitLimit : 1 ≤ s.ctl.waitLimit.toNat ∧ s.ctl.waitLimit.toNat ≤ 15
  /-- R169: the join holdoff runs in JOINING alone. -/
  holdoff : s.ctl.joinHoldoff.isSome = true ↔ s.ctl.station = .joining
  /-- R44: the beacon timer runs, or stays expired, in ONLINE and DRAINING alone. -/
  beacon : s.presence.beaconTimer ≠ .stopped ↔ s.onTrunk = true
  /-- R45: a beacon is queued in ONLINE and DRAINING alone. -/
  queued : s.presence.beaconQueued = true → s.onTrunk = true
  /-- R36, R42: the consecutive-collision count is at most 4, and 4 in DETACHED alone. -/
  collisions : s.access.collisions ≤ 4 ∧ (s.access.collisions = 4 → s.ctl.station = .detached)
  /-- R77, R119: the queue laws of the request queue and the completion queue. -/
  queues : s.issue.requestQueue.length ≤ 32 ∧ s.completion.queue.length ≤ 32
  /-- R142: the threshold lies in 1..32. -/
  threshold : 1 ≤ s.events.threshold ∧ s.events.threshold ≤ 32
  /-- R149: no pulse is being driven in LEVEL mode. -/
  pulse : s.events.lineMode = .level → s.events.pulsing = false
  /-- R172: in LOADING every mask is set, and HINT# stays released. -/
  masked : s.ctl.station = .loading → s.events.mask = Categories.all ∧ s.events.pulsing = false
  /-- R28: in LOADING and in JOINING no own frame and no own mark is under way. -/
  quiet : s.ctl.station = .loading ∨ s.ctl.station = .joining → s.tifQuiet = true
  /-- R24: while an own frame is on the wire no slot is still to end and no other frame is taken. -/
  wire : s.tif.tx ≠ none → s.tif = Tif.busyWith s.tif.tx
  /-- R23: a frame is passing only for a receiver that is on, and the trunk is then busy (R37). -/
  incoming : s.tif.incoming = true → s.receiverOn = true ∧ s.tif.trunk = .busy
  /-- R28: the CORRUPT mark waits behind another slot, in ONLINE or DRAINING. -/
  corruptNext : s.tif.corruptNext = true → s.tif.exchange ≠ none ∧ s.onTrunk = true
  /-- R37: while a round is open, the next of its 48 slots, or its end, is to come, at a receiver that is on, and no
  slot of an exchange is still to end. -/
  round : ∀ next, s.tif.trunk = .idle next → next ≤ 48 ∧ s.receiverOn = true ∧ s.tif.exchange = none
  /-- The local memory is in its canonical form. -/
  memory : Memory.wf s.localMem = true

/-- `t` was issued before `u` (R90). -/
def State.issuedBefore (s : State) (t u : Tag) : Prop :=
  ∃ a b c, s.ort.issueOrder = a ++ t :: b ++ u :: c

/-- R89, the send-order law: while the request frame of the entry of tag `g` is on the wire, no entry issued
before it is FETCHING, READY or HOLD; on the trunk the entry itself is READY until the frame's outcome (R94). -/
structure SendOrder (s : State) : Prop where
  ready : ∀ f g, s.tif.tx = some ⟨f, .request g⟩ → s.onTrunk = true → (s.entry g).state = .ready
  earlier : ∀ f g, s.tif.tx = some ⟨f, .request g⟩ → ∀ u, s.issuedBefore u g → (s.entry u).unsentState = false

/-- The laws together. -/
structure Lawful (s : State) : Prop where
  target : TargetLaw s
  ort : OrtLaw s
  station : StationLaw s
  sendOrder : SendOrder s

/-! ### The doors between the station states (chapter 11, section 11.1) -/

/-- The command carries a frame of another station. -/
def isReception : Instr → Bool
  | .requestFrameReceived _ => true
  | .completionFrameReceived _ => true
  | .beaconReceived _ => true
  | _ => false

/-- The command is this host command, or the byte that may complete it. -/
def isHostCommand (i c : Instr) : Prop := i = c ∨ ∃ b, i = .hostByteComplete b

/-- The transitions of section 11.1: from this state, by this command, to that state. -/
inductive Door : StationState → Instr → StationState → Prop
  | pinReset (a) : Door a .pinReset .loading
  | restart (a) : Door a .hostFrameEnd .loading
  | autoJoin (e n) : Door .loading (.endOfLoading e n) .joining
  | loaded (e n) : Door .loading (.endOfLoading e n) .config
  | join (i) : isHostCommand i .join → Door .config i .joining
  | holdoff : Door .joining .joinHoldoffExpiry .online
  | joinDuplicate (i) : isReception i = true → Door .joining i .config
  | leave (i) : isHostCommand i .leave → Door .online i .draining
  | atRest : Door .draining .endOfDraining .config
  | abort (a i) : a ∈ [StationState.joining, .online, .draining, .detached] → isHostCommand i .abort →
      Door a i .config
  | collisionLimit (a) : a ∈ [StationState.online, .draining] → Door a .collision .detached
  | duplicate (a i) : a ∈ [StationState.online, .draining] → isReception i = true → Door a i .detached

/-! ### The host port -/

/-- The next byte completed can take this command with these operand bytes (R154, R155): the station is not
held, and either HSEL# has fallen and no byte is complete, or the bytes received are this command's code
and some, but not all, of these operand bytes. -/
def State.openFor (s : State) (c : HostCode) (operands : List Byte) : Prop :=
  s.held = false ∧
    (s.host.decoder = .command
      ∨ ∃ got, s.host.decoder = .operands c got ∧ got <+: operands ∧ got.length < operands.length)

/-- R158: the station states whose column reads "refused" in the command's row of the table. -/
def HostCode.refusedIn : HostCode → List StationState
  | .status => [.loading]
  | .submit => [.loading, .draining, .detached]
  | .takeCompletion => [.loading]
  | .takeNotify => [.loading]
  | .readEvents => [.loading]
  | .ackEvents => [.loading]
  | .setMask => [.loading]
  | .setThreshold => [.loading]
  | .setLineMode => [.loading]
  | .readPresence => [.loading]
  | .readCounters => [.loading]
  | .clearCounters => [.loading]
  | .readFault => [.loading]
  | .configRead => [.loading, .joining, .online, .draining, .detached]
  | .configWrite => [.loading, .joining, .online, .draining, .detached]
  | .join => [.loading, .joining, .online, .draining, .detached]
  | .leave => [.loading, .config, .joining, .draining, .detached]
  | .abort => [.loading, .config]
  | .restart => []

/-- A host port row: its command, its operand bytes, and its response bytes when it is refused with
WRONG_STATE (filler, save that a refused ABORT counts 0; R158, R167, R186). -/
def hostRow : Instr → Option (HostCode × List Byte × List Byte)
  | .status => some (.status, [], List.replicate 9 0xFF)
  | .submit d => some (.submit, d.bytes, [])
  | .takeCompletion => some (.takeCompletion, [], List.replicate 10 0xFF)
  | .takeNotify => some (.takeNotify, [], List.replicate 7 0xFF)
  | .readEvents => some (.readEvents, [], List.replicate 4 0xFF)
  | .ackEvents c => some (.ackEvents, [c], [])
  | .setMask c => some (.setMask, [c], [])
  | .setThreshold v => some (.setThreshold, [v], [])
  | .setLineMode c => some (.setLineMode, [c], [])
  | .readPresence => some (.readPresence, [], List.replicate 4 0xFF)
  | .readCounters => some (.readCounters, [], List.replicate 18 0xFF)
  | .clearCounters c => some (.clearCounters, bytes2 c, [])
  | .readFault => some (.readFault, [], List.replicate 4 0xFF)
  | .configRead item => some (.configRead, item.bytes, List.replicate item.responseLength 0xFF)
  | .configWrite v => some (.configWrite, v.bytes, [])
  | .join => some (.join, [], List.replicate 2 0xFF)
  | .leave => some (.leave, [], [])
  | .abort => some (.abort, [], [0])
  | .restart => some (.restart, [], [])
  | .pinReset => none
  | .resetRelease => none
  | .endOfLoading _ _ => none
  | .hostFrameStart => none
  | .hostFrameEnd => none
  | .contentionSlot _ => none
  | .roundOpen => none
  | .slotBegin => none
  | .slotEnd _ => none
  | .ownFrameSent => none
  | .collision => none
  | .requestFrameReceived _ => none
  | .completionFrameReceived _ => none
  | .beaconReceived _ => none
  | .corruptReception _ => none
  | .presenceTimeout _ => none
  | .beaconTimerExpiry => none
  | .joinHoldoffExpiry => none
  | .holdoffExpiry _ => none
  | .completionTimeout _ => none
  | .quarantineExpiry _ => none
  | .lifetimeExpiry _ => none
  | .issue => none
  | .placeRecord => none
  | .memoryGrant => none
  | .wordAccessComplete _ => none
  | .waitTimerExpiry => none
  | .notifyService => none
  | .endOfDraining => none
  | .hintPulseEnd => none
  | .startDelimiterSeen => none
  | .hostByteComplete _ => none

/-- These bytes completed one after another (R154). -/
def completeBytes (bs : List Byte) (s : State) : Host.Outcome State Fault Refusal :=
  match bs with
  | [] => .next s
  | b :: rest =>
    match exec (.hostByteComplete b) s with
    | .next s' => completeBytes rest s'
    | .fault r => .fault r
    | .refused r => .refused r

/-- R76: a descriptor of this op is valid; the sums are formed without wrap-around. -/
def RawDescriptor.meets (d : RawDescriptor) (op : Op) : Prop :=
  d.flags.toNat % 8 = (match op with
      | .write => 1
      | .writeAcked => 2
      | .read => 3
      | .swap => 4)
    ∧ 1 ≤ d.length.toNat ∧ d.length.toNat ≤ 64
    ∧ (op = .swap → d.length.toNat = 4 ∧ d.address.toNat % 4 = 0)
    ∧ d.address.toNat + d.length.toNat ≤ 4294967296
    ∧ d.localAddress.toNat + d.length.toNat ≤ 262144

/-- R73, R162: the descriptor that SUBMIT queues. -/
def RawDescriptor.queued (d : RawDescriptor) (op : Op) : Descriptor where
  op := op
  fence := d.flags.getLsbD 6
  urgent := d.flags.getLsbD 7
  address := d.address
  length := d.length.toNat
  localAddress := d.localAddress.toNat
  cookie := d.cookie
  compareValue := if op = .swap then some d.compareValue else none
  newValue := if op = .swap then some d.newValue else none

/-! ### The trunk -/

/-- R40, R48: a clean frame from `src` at the Presence Monitor and the Access Unit, outside DETACHED. -/
def State.heard (s : State) (src : StationNo) : State :=
  { s with
    access := { s.access with rotation := src, sync := .inSync }
    presence :=
      { s.presence with
        table :=
          if s.presence.table[src] = .self then s.presence.table
          else s.presence.table.set src.val (.present 768) src.isLt }
    events :=
      if s.presence.table[src] = .absent then s.events.raiseTrunk .presenceChange else s.events }

/-- R22: the frame just ended, an own frame of this origin or another station's, is followed by a slot in
which the station will drive this mark. -/
def State.slotAhead (s : State) (sender : Option Origin) (mark : Mark) : State :=
  { s with
    tif :=
      { s.tif with
        exchange := some ⟨sender, mark, false, s.ctl.number⟩, incoming := false, trunk := .busy } }

/-- R114, R115: from `s` to `t` every request is ended as ABORT and entry to DETACHED end it. -/
structure RequestsEnded (s t : State) : Prop where
  /-- A memory operation in flight runs on, and its entry carries the ending mark. -/
  inFlight : ∀ g, (s.entry g).state = .fetching ∨ (s.entry g).state = .storing → s.granted g = true →
    t.entry g = { s.entry g with endingMark := true }
  withdrawn : ∀ g, (s.entry g).state = .fetching ∨ (s.entry g).state = .storing → s.granted g = false →
    t.entry g = { s.entry g with state := .done, result := some .aborted, endingMark := false }
  ended : ∀ g, (s.entry g).state = .ready ∨ (∃ k, (s.entry g).state = .hold k)
      ∨ (∃ k, (s.entry g).state = .awaiting k) →
    t.entry g = { s.entry g with state := .done, result := some .aborted, endingMark := false }
  kept : ∀ g, (s.entry g).state = .free ∨ (s.entry g).state = .done → t.entry g = s.entry g
  stale : ∀ g k, (s.entry g).state = .stale k → (t.entry g).state = .free
  /-- The entries ended join the retire list in issue order, behind those already on it. -/
  retire : ∃ joined : List Tag, t.completion.retire = s.completion.retire ++ joined
    ∧ joined.Sublist s.ort.issueOrder
    ∧ ∀ g, g ∈ joined ↔ g ∈ s.ort.issueOrder ∧ (s.entry g).state ≠ .done ∧ (t.entry g).state = .done
  order : t.ort.issueOrder.Sublist s.ort.issueOrder
    ∧ ∀ g, g ∈ t.ort.issueOrder ↔ g ∈ s.ort.issueOrder ∧ ∀ k, (s.entry g).state ≠ .stale k
  unsent : t.issue.unsent = []
  records : t.completion.queue = s.completion.queue

/-- R71, R129, R139: from `s` to `t` the Target Engine is emptied: both queues, every reservation and every
notify hold; the operation in flight runs on, a target operation with its result to be discarded. -/
structure TargetEmptied (s t : State) : Prop where
  queues : t.target = { service := [], responses := [], nonPosted := 0 }
  mailbox : t.mailbox = { s.mailbox with reserved := 0 }
  port : t.port = s.port.map (fun op => if op.requester = .target then { op with discard := true } else op)

/-- R182: from `s` to `t` the station enters DETACHED with this kind of fault. -/
structure EntersDetached (s t : State) (kind : FaultKind) : Prop where
  ctl : t.ctl = { s.ctl with station := .detached }
  events : t.events = s.events.raiseFault .detached ⟨kind, s.ctl.station, .station s.ctl.number⟩
  requests : RequestsEnded s t
  descriptors : t.issue.requestQueue = s.issue.requestQueue
  target : TargetEmptied s t
  access : t.access = s.access
  presence : t.presence = { s.presence with beaconTimer := .stopped, beaconQueued := false }
  /-- A mark not yet begun is not begun; one being driven is held (R30). -/
  tif : t.tif = { s.tif with
    exchange := s.tif.exchange.map (fun e => if e.begun then e else { e with mark := .none })
    corruptNext := false }
  rest : t = { s with
    ctl := t.ctl
    presence := t.presence
    tif := t.tif
    target := t.target
    issue := t.issue
    ort := t.ort
    completion := t.completion
    mailbox := t.mailbox
    port := t.port
    events := t.events }

end Sys2Proof.Machine
end

