-- ==== Sys2Proof/Certificates/Slice0/Obligations.lean ====
section
/-! DEFINITION. The statements for the provers. Each docstring names the rules of the manual it comes from;
what rests on the model's own choice names its log entry. -/

open Sys2Proof Sys2Proof.Machine

/-! ### The queue of commands, resets and loading -/

/-- The model's choice (log entry 1): a step with a command waiting is the effect of the one at the front, on
the state with the rest of the queue. -/
def Obligations.StepRunsTheFrontCommand : Prop :=
  ∀ (c : Instr) (rest : List Instr) (s : State), s.pending = c :: rest →
    step s = exec c { s with pending := rest }

/-- The model's choice (log entry 7): with no command waiting the rest of the wait limit passes while a word access
waits for MREADY, and otherwise one tick; every running tick timer then has one tick less remaining, and nothing
else changes. A held station counts no tick. -/
def Obligations.IdleStepIsOneTick : Prop :=
  ∀ s : State, s.pending = [] →
    (∀ op, s.port = some op → op.wait ≠ 0 → step s = .next { s with port := some { op with wait := 0 } }) ∧
    ((∀ op, s.port = some op → op.wait = 0) → s.held = true → step s = .next s) ∧
    ((∀ op, s.port = some op → op.wait = 0) → s.held = false → ∃ t : State, step s = .next t ∧
      t.ctl.joinHoldoff = s.ctl.joinHoldoff.map (· - 1) ∧
      (∀ n : StationNo, t.presence.table[n] =
        match s.presence.table[n] with
        | .present k => .present (k - 1)
        | p => p) ∧
      t.presence.beaconTimer =
        (match s.presence.beaconTimer with
        | .running k => .running (k - 1)
        | b => b) ∧
      t.target.service = s.target.service.map (fun e =>
        { e with reservation := match e.reservation with
          | .live k => .live (k - 1)
          | r => r }) ∧
      t.target.responses = s.target.responses.map (fun r => { r with lifetime := r.lifetime - 1 }) ∧
      (∀ g : Tag, t.entry g =
        { s.entry g with state := match (s.entry g).state with
          | .hold k => .hold (k - 1)
          | .awaiting k => .awaiting (k - 1)
          | .stale k => .stale (k - 1)
          | e => e }) ∧
      t = { s with
            ctl := { s.ctl with joinHoldoff := t.ctl.joinHoldoff }
            presence :=
              { s.presence with table := t.presence.table, beaconTimer := t.presence.beaconTimer }
            target := { s.target with service := t.target.service, responses := t.target.responses }
            ort := { s.ort with entries := t.ort.entries } })

/-- R36, R53, R55, R78, R93, R124, R129, R130, R142, R154: what the blocks hold right after a reset. -/
def Obligations.BlocksAfterReset : Prop :=
  State.reset.ctl.station = .loading ∧
  State.reset.access = { rotation := 15, sync := .lost, collisions := 0 } ∧
  State.reset.presence.beaconTimer = .stopped ∧ State.reset.presence.beaconQueued = false ∧
  State.reset.target = { service := [], responses := [], nonPosted := 0 } ∧
  State.reset.issue = { requestQueue := [], unsent := [] } ∧
  (∀ t : Tag, (State.reset.entry t).state = .free ∧ (State.reset.entry t).endingMark = false) ∧
  State.reset.completion = { queue := [], retire := [] } ∧
  State.reset.mailbox = { records := [], reserved := 0 } ∧
  State.reset.port = none ∧
  (∀ w : WindowIdx, (State.reset.windows[w]).conflictCount = 0 ∧ (State.reset.windows[w]).refusalCount = 0
    ∧ (State.reset.windows[w]).lastRefusal = none) ∧
  State.reset.events.pending = ⟨false, false, false, false⟩ ∧
  State.reset.events.mask = ⟨true, true, true, true⟩ ∧
  State.reset.events.lineMode = .level ∧ State.reset.events.threshold = 1 ∧
  State.reset.events.lastFault = none ∧
  State.reset.events.counters = ⟨0, 0, 0, 0, 0, 0, 0, 0, 0⟩ ∧
  State.reset.host.decoder = .idle ∧ State.reset.tif.tx = none ∧ State.reset.tif.exchange = none ∧
  State.reset.tif.corruptNext = false ∧ State.reset.tif.incoming = false

/-- R170, R140: a pin reset puts the blocks at their pin-reset values, makes the last-fault record absent and
holds the station; its release lets a held station go, and does nothing else. Local memory keeps every byte but
those of a write access it cuts short. The model's choice, log entry 3: each of those bytes holds its old value or
the value being written. The model's choice, log entry 4: the station number, CT, the wait limit, the load result
and the configuration of the windows stay until loading replaces them, the presence table is ABSENT throughout,
and the trunk counts as busy. -/
def Obligations.PinResetHoldsTheStation : Prop :=
  ∀ s : State,
    (∃ m k, exec .pinReset s = .next
        { State.reset with
          pending := s.pending
          held := true
          ctl := { s.ctl with station := .loading, joinHoldoff := none }
          windows := s.windows.map (fun w => { w with conflictCount := 0, refusalCount := 0, lastRefusal := none })
          host := { State.reset.host with selected := s.host.selected }
          localMem := m
          freeIndex := k } ∧
      (Memory.wf s.localMem = true → ∀ a, Memory.read m a = Memory.read s.localMem a ∨
        ∃ op b, s.port = some op ∧ op.writing = true ∧ (a, b) ∈ op.cells ∧ Memory.read m a = b) ∧
      ((∀ op, s.port = some op → op.writing = false) → m = s.localMem ∧ k = s.freeIndex)) ∧
    exec .resetRelease s = .next { s with held := false }

/-- R170: while RESET# is asserted no command but PIN_RESET, RESET_RELEASE and the edges of HSEL# changes
anything, and HINT# and HDO are released. -/
def Obligations.HeldStationIgnoresCommands : Prop :=
  ∀ (i : Instr) (s : State), StationLaw s → s.held = true →
    s.hintAsserted = false ∧ s.hdo = none ∧
    (i ≠ .pinReset → i ≠ .resetRelease → i ≠ .hostFrameStart → i ≠ .hostFrameEnd → exec i s = .next s)

/-- R173, R174, R175, R188: the load result, in the order of the table; an image byte past the EEPROM's end reads
FFh. Without a LOADED image the station number comes from the straps and everything else from the defaults, and
the station enters CONFIG; CORRUPT raises LOAD_FAULT. -/
def Obligations.LoadingWithoutAnImage : Prop :=
  (loadResultOf none = .absent ∧
   ∀ image : List Byte,
     (image.getD 0 0xFF ≠ 0xA6 → loadResultOf (some image) = .blank) ∧
     (image.getD 0 0xFF = 0xA6 →
       ((List.range 112).map (fun i => (image.getD i 0xFF).toNat)).sum % 256 ≠ 0 →
         loadResultOf (some image) = .corrupt) ∧
     (image.getD 0 0xFF = 0xA6 →
       ((List.range 112).map (fun i => (image.getD i 0xFF).toNat)).sum % 256 = 0 →
         loadResultOf (some image) = .loaded)) ∧
  (∀ (e : Option (List Byte)) (straps : StationNo) (s : State),
     s.held = false → s.ctl.station = .loading → loadResultOf e ≠ .loaded →
     exec (.endOfLoading e straps) s = .next
       { s with
         ctl :=
           { station := .config, number := straps, ct := 1024, waitLimit := 8,
             loadResult := loadResultOf e, joinHoldoff := s.ctl.joinHoldoff }
         windows := Vector.replicate 8
           { config :=
               { enabled := false, kind := .memory, trunkBase := 0, length := 256, localBase := 0,
                 readRight := false, writeRight := false, allowed := 0 }
             conflictCount := 0, refusalCount := 0, lastRefusal := none }
         presence :=
           { s.presence with
             table := Vector.ofFn (fun n => if n = straps then .self else .absent) }
         events :=
           if loadResultOf e = .corrupt then
             { s.events with
               lineMode := .level
               threshold := 1
               pending := { s.events.pending with fault := true }
               faultCauses := { s.events.faultCauses with loadFault := true }
               lastFault := some ⟨.loadFault, .loading, .absent⟩
               pulsing := s.events.pulsing }
           else { s.events with lineMode := .level, threshold := 1 } })

/-- R174, R175, R187, R177: a LOADED image gives the working configuration, line mode and threshold, out of
range settings replaced; the station enters JOINING when the auto-join flag is set and the JOIN checks pass,
and CONFIG otherwise, with JOIN_INVALID when it was to join; with every mask set, as LOADING has it (R172), that
drives no pulse. By the model's choice, log entry 19, on entry to JOINING the trunk counts as busy until ROUND_OPEN. -/
def Obligations.LoadingALoadedImage : Prop :=
  ∀ (image : List Byte) (straps : StationNo) (s : State),
    s.held = false → s.ctl.station = .loading → loadResultOf (some image) = .loaded →
    let b : Nat → Byte := fun i => image.getD i 0xFF
    ∃ t : State, exec (.endOfLoading (some image) straps) s = .next t ∧
      t.ctl.number.val = (if (b 1).getLsbD 7 = true then (b 1).toNat % 16 else straps.val) ∧
      t.ctl.ct.toNat = (256 * (b 2).toNat + (b 3).toNat) % 4096 ∧
      t.ctl.waitLimit.toNat = (if 1 ≤ (b 4).toNat ∧ (b 4).toNat ≤ 15 then (b 4).toNat else 8) ∧
      t.ctl.loadResult = .loaded ∧
      t.events.lineMode = (if b 5 = 1 then .pulse else .level) ∧
      t.events.threshold = (if 1 ≤ (b 6).toNat ∧ (b 6).toNat ≤ 32 then (b 6).toNat else 1) ∧
      (∀ w : WindowIdx,
        let p := 7 + 13 * w.val
        (t.windows[w]).config.enabled = (b p).getLsbD 7 ∧
        (t.windows[w]).config.kind =
          (if (b p).getLsbD 5 = false ∧ (b p).getLsbD 4 = true then .notify else .memory) ∧
        (t.windows[w]).config.readRight = (b p).getLsbD 1 ∧
        (t.windows[w]).config.writeRight = (b p).getLsbD 0 ∧
        (t.windows[w]).config.trunkBase = b (p + 1) ++ b (p + 2) ++ b (p + 3) ++ b (p + 4) ∧
        (t.windows[w]).config.length = b (p + 5) ++ b (p + 6) ++ b (p + 7) ∧
        (t.windows[w]).config.localBase = b (p + 8) ++ b (p + 9) ++ b (p + 10) ∧
        (t.windows[w]).config.allowed = b (p + 11) ++ b (p + 12) ∧
        (t.windows[w]).conflictCount = 0 ∧ (t.windows[w]).refusalCount = 0 ∧
        (t.windows[w]).lastRefusal = none) ∧
      (∀ n : StationNo, t.presence.table[n] = if n = t.ctl.number then .self else .absent) ∧
      ((b 1).getLsbD 6 = false →
        t = { s with
              ctl := { t.ctl with station := .config, joinHoldoff := s.ctl.joinHoldoff }
              windows := t.windows
              presence := { s.presence with table := t.presence.table }
              events := { s.events with lineMode := t.events.lineMode, threshold := t.events.threshold } }) ∧
      ((b 1).getLsbD 6 = true → joinFault t.windows t.ctl.ct = none →
        t = { s with
              ctl := { t.ctl with station := .joining, joinHoldoff := some 1024 }
              windows := t.windows
              access := { s.access with sync := .lost, collisions := 0 }
              presence := { s.presence with table := t.presence.table }
              tif :=
                { tx := s.tif.tx, exchange := none, corruptNext := false, incoming := false, trunk := .busy }
              events := { s.events with lineMode := t.events.lineMode, threshold := t.events.threshold } }) ∧
      (∀ reason w, (b 1).getLsbD 6 = true → joinFault t.windows t.ctl.ct = some (reason, w) →
        s.events.mask = ⟨true, true, true, true⟩ →
        t = { s with
              ctl := { t.ctl with station := .config, joinHoldoff := s.ctl.joinHoldoff }
              windows := t.windows
              presence := { s.presence with table := t.presence.table }
              events :=
                { s.events with
                  lineMode := t.events.lineMode
                  threshold := t.events.threshold
                  pending := { s.events.pending with fault := true }
                  faultCauses := { s.events.faultCauses with joinInvalid := true }
                  lastFault := some ⟨.joinInvalid, .loading, .join reason w⟩
                  pulsing := s.events.pulsing } })

/-! ### The host port: frames -/

/-- R154, R156: the falling edge of HSEL# starts a frame; the rising edge of a frame whose command was not
taken discards it and counts one host frame error. A frame that a pin reset interrupted is not counted, and
the edges have no other effect. -/
def Obligations.HostFrameEdges : Prop :=
  ∀ s : State,
    (s.host.selected = false →
      exec .hostFrameStart s = .next
        { s with
          host :=
            { selected := true, decoder := if s.held then .idle else .command, taken := none, reply := [],
              clocked := 0 } }) ∧
    (s.host.selected = true →
      exec .hostFrameStart s = .next s ∧
      (s.host.decoder = .idle →
        exec .hostFrameEnd s = .next
          { s with
            host := { selected := false, decoder := .idle, taken := none, reply := [], clocked := 0 } }) ∧
      ((s.host.decoder = .command ∨ s.host.decoder = .discard ∨
          ∃ c got, s.host.decoder = .operands c got) →
        exec .hostFrameEnd s = .next
          { s with
            events :=
              { s.events with
                counters :=
                  { s.events.counters with
                    hostFrameErrors :=
                      BitVec.ofNat 16 (min 65535 (s.events.counters.hostFrameErrors.toNat + 1)) } }
            host := { selected := false, decoder := .idle, taken := none, reply := [], clocked := 0 } })) ∧
    (s.host.selected = false → exec .hostFrameEnd s = .next s)

/-- R157, R122, R128: at the end of a frame in RESPONSE the head completion record, or the oldest notify
record, is removed when the take was answered DONE and the whole record was clocked out, and is left
otherwise; for every other command but RESTART nothing further happens. -/
def Obligations.FrameEndRemovesATakenRecord : Prop :=
  ∀ s : State, s.host.selected = true → s.host.decoder = .response →
    let h : HostPort := { selected := false, decoder := .idle, taken := none, reply := [], clocked := 0 }
    (s.host.taken = some (.takeCompletion, .done) →
      exec .hostFrameEnd s = .next
        { s with
          completion :=
            { s.completion with
              queue := if s.host.reply.length ≤ s.host.clocked then s.completion.queue.tail
                else s.completion.queue }
          host := h }) ∧
    (s.host.taken = some (.takeNotify, .done) →
      exec .hostFrameEnd s = .next
        { s with
          mailbox :=
            { s.mailbox with
              records := if s.host.reply.length ≤ s.host.clocked then s.mailbox.records.tail
                else s.mailbox.records }
          host := h }) ∧
    (s.host.taken ≠ some (.takeCompletion, .done) → s.host.taken ≠ some (.takeNotify, .done) →
      s.host.taken ≠ some (.restart, .done) →
      exec .hostFrameEnd s = .next { s with host := h })

/-- R168, R171: RESTART is answered DONE and changes nothing when it is taken; at the end of its frame the
station does what a pin reset does, but keeps the last-fault record and is not held. -/
def Obligations.RestartActsAtTheFrameEnd : Prop :=
  ∀ s : State,
    (s.openFor .restart [] →
      exec .restart s = .next
        { s with
          host :=
            { s.host with
              decoder := .response, taken := some (.restart, .done), reply := [0x00], clocked := 0 } }) ∧
    (s.held = false → s.host.selected = true → s.host.decoder = .response →
      s.host.taken = some (.restart, .done) →
      ∃ t, exec .pinReset s = .next t ∧
        exec .hostFrameEnd s = .next
          { t with
            held := false
            events := { t.events with lastFault := s.events.lastFault }
            host := { t.host with selected := false } })

/-- R154, R155, R156, R186: what a completed byte does in each state of the frame decoder, and a command taken: the
code of a command and its operand bytes, completed one after another from COMMAND, have the effect of the command's
row. HDO is released with HSEL# high and in IDLE, carries filler until the command is taken and in a frame with an
unknown code, and then the result and response bytes in order and filler behind them. -/
def Obligations.HostBytesReachTheDecoder : Prop :=
  (∀ (b : Byte) (s : State),
     (s.held = true ∨ s.host.decoder = .idle ∨ s.host.decoder = .discard →
       exec (.hostByteComplete b) s = .next s) ∧
     (s.held = false → s.host.decoder = .response →
       exec (.hostByteComplete b) s = .next { s with host := { s.host with clocked := s.host.clocked + 1 } }) ∧
     (s.held = false → s.host.decoder = .command → b = 0 ∨ 0x13 < b.toNat →
       exec (.hostByteComplete b) s = .next { s with host := { s.host with decoder := .discard } }) ∧
     (∀ c : HostCode, s.held = false → s.host.decoder = .command → b = c.byte →
       c ∈ [HostCode.submit, .ackEvents, .setMask, .setThreshold, .setLineMode, .clearCounters, .configRead,
         .configWrite] →
       exec (.hostByteComplete b) s = .next { s with host := { s.host with decoder := .operands c [] } }) ∧
     (∀ c got, s.held = false → s.host.decoder = .operands c got →
       (got ++ [b]).length ≠ c.operandCount (got ++ [b]).head? →
       exec (.hostByteComplete b) s = .next
         { s with host := { s.host with decoder := .operands c (got ++ [b]) } })) ∧
  (∀ (i : Instr) (c : HostCode) (operands refused : List Byte) (s : State),
     hostRow i = some (c, operands, refused) → i.wf = true → s.held = false → s.host.decoder = .command →
     completeBytes (c.byte :: operands) s = exec i s) ∧
  (∀ s : State, s.held = false →
     (s.host.selected = false ∨ s.host.decoder = .idle → s.hdo = none) ∧
     (s.host.selected = true →
       (s.host.decoder = .command ∨ s.host.decoder = .discard ∨ (∃ c got, s.host.decoder = .operands c got) →
         s.hdo = some 0xFF) ∧
       (s.host.decoder = .response →
         (∀ before b after, s.host.reply = before ++ b :: after → before.length = s.host.clocked →
           s.hdo = some b) ∧
         (s.host.reply.length ≤ s.host.clocked → s.hdo = some 0xFF))))

/-- R158, R167: a command that the station state does not permit is answered WRONG_STATE with filler, a
refused ABORT with a count of 0, and changes nothing else. One that the state permits is passed on, and its own
rule gives another result. -/
def Obligations.WrongStateChangesNothing : Prop :=
  ∀ (i : Instr) (c : HostCode) (operands refused : List Byte) (s : State),
    hostRow i = some (c, operands, refused) → i.wf = true → s.openFor c operands →
    (s.ctl.station ∈ c.refusedIn →
      exec i s = .next
        { s with
          host :=
            { s.host with
              decoder := .response, taken := some (c, .wrongState), reply := 0x04 :: refused, clocked := 0 } }) ∧
    (s.ctl.station ∉ c.refusedIn →
      ∃ t r, exec i s = .next t ∧ t.host.decoder = .response ∧ t.host.taken = some (c, r) ∧ r ≠ .wrongState)

/-- R159, R160, R186: STATUS reports the station as it stands, and READ_PRESENCE the sixteen presence entries, two
bits each, entry 0 in the top bits of the first byte; neither changes anything but the answer. The model's choice,
log entry 2: the upper four bits of the last byte of STATUS are free. -/
def Obligations.StatusAndPresenceReport : Prop :=
  (∀ s : State, s.openFor .status [] → s.ctl.station ≠ .loading →
     ∃ flags : Byte,
       exec .status s = .next
         { s with
           host :=
             { s.host with
               decoder := .response
               taken := some (.status, .done)
               reply :=
                 [0x00,
                  (match s.ctl.station with
                   | .loading => 0 | .config => 1 | .joining => 2 | .online => 3 | .draining => 4
                   | .detached => 5),
                  (match s.ctl.loadResult with
                   | .absent => 0 | .blank => 1 | .corrupt => 2 | .loaded => 3),
                  (match s.access.sync with
                   | .lost => 0 | .inSync => 1),
                  BitVec.ofNat 8 s.issue.requestQueue.length,
                  BitVec.ofNat 8 ((List.finRange 16).countP (fun t => decide ((s.entry t).state ≠ .free))),
                  BitVec.ofNat 8 s.completion.queue.length,
                  BitVec.ofNat 8 s.completion.retire.length,
                  BitVec.ofNat 8 s.mailbox.records.length,
                  flags]
               clocked := 0 }
           freeIndex := s.freeIndex + 1 } ∧
       flags.getLsbD 0 = s.events.pending.completion ∧ flags.getLsbD 1 = s.events.pending.notify ∧
       flags.getLsbD 2 = s.events.pending.trunk ∧ flags.getLsbD 3 = s.events.pending.fault) ∧
  (∀ s : State, s.openFor .readPresence [] → s.ctl.station ≠ .loading →
     ∃ p0 p1 p2 p3 : Byte,
       exec .readPresence s = .next
         { s with
           host :=
             { s.host with
               decoder := .response, taken := some (.readPresence, .done), reply := [0x00, p0, p1, p2, p3],
               clocked := 0 } } ∧
       ∀ n : StationNo,
         (([p0, p1, p2, p3].getD (n.val / 4) 0).toNat / 4 ^ (3 - n.val % 4)) % 4 =
           (match s.presence.table[n] with
           | .absent => 0
           | .present _ => 1
           | .self => 2))

/-! ### The host port: commands -/

/-- R161, R151, R186: READ_FAULT reports the last-fault record and does not clear it; READ_EVENTS reports the
flags, masks, cause sets, threshold and line mode, and changes none. Bits that the layout leaves open are
free (log entry 2). -/
def Obligations.ReadFaultAndEventsReport : Prop :=
  ∀ s : State, s.ctl.station ≠ .loading →
    (s.openFor .readFault [] →
      ∃ flags kind state detail : Byte,
        exec .readFault s = .next
          { s with
            host :=
              { s.host with
                decoder := .response, taken := some (.readFault, .done),
                reply := [0x00, flags, kind, state, detail], clocked := 0 }
            freeIndex := s.freeIndex + 1 } ∧
        flags.getLsbD 0 = s.events.lastFault.isSome ∧
        (s.events.lastFault = none →
          flags.getLsbD 1 = false ∧ kind = 0xFF ∧ state = 0xFF ∧ detail = 0xFF) ∧
        (∀ r, s.events.lastFault = some r →
          kind.toNat = (match r.kind with
            | .duplicateStation => 1 | .collisionLimit => 2 | .targetWriteFault => 3
            | .localMemoryFault => 4 | .loadFault => 5 | .joinInvalid => 6 | .joinDuplicate => 7) ∧
          state.toNat = (match r.station with
            | .loading => 0 | .config => 1 | .joining => 2 | .online => 3 | .draining => 4
            | .detached => 5) ∧
          flags.getLsbD 1 = decide (r.detail ≠ .absent) ∧
          (∀ n, r.detail = .station n → detail.toNat = n.val) ∧
          (∀ w, r.detail = .window w → detail.toNat = w.val) ∧
          (∀ reason w, r.detail = .join reason w →
            detail.toNat % 16 = (match w with
              | some w => w.val
              | none => 15) ∧
            detail.toNat / 16 = (match reason with
              | .baseAlign => 1 | .length => 2 | .trunkRange => 3 | .localRange => 4 | .overlap => 5
              | .ctRange => 6)))) ∧
    (s.openFor .readEvents [] →
      ∃ flags trunk fault mode : Byte,
        exec .readEvents s = .next
          { s with
            host :=
              { s.host with
                decoder := .response, taken := some (.readEvents, .done),
                reply := [0x00, flags, trunk, fault, mode], clocked := 0 }
            freeIndex := s.freeIndex + 1 } ∧
        flags.getLsbD 0 = s.events.pending.completion ∧ flags.getLsbD 1 = s.events.pending.notify ∧
        flags.getLsbD 2 = s.events.pending.trunk ∧ flags.getLsbD 3 = s.events.pending.fault ∧
        flags.getLsbD 4 = s.events.mask.completion ∧ flags.getLsbD 5 = s.events.mask.notify ∧
        flags.getLsbD 6 = s.events.mask.trunk ∧ flags.getLsbD 7 = s.events.mask.fault ∧
        trunk.getLsbD 0 = s.events.trunkCauses.presenceChange ∧
        trunk.getLsbD 1 = s.events.trunkCauses.windowConflict ∧
        trunk.getLsbD 2 = s.events.trunkCauses.syncLost ∧
        trunk.getLsbD 3 = s.events.trunkCauses.responseDropped ∧
        fault.getLsbD 0 = s.events.faultCauses.detached ∧
        fault.getLsbD 1 = s.events.faultCauses.targetWriteFault ∧
        fault.getLsbD 2 = s.events.faultCauses.localMemoryFault ∧
        fault.getLsbD 3 = s.events.faultCauses.loadFault ∧
        fault.getLsbD 4 = s.events.faultCauses.joinInvalid ∧
        fault.getLsbD 5 = s.events.faultCauses.joinDuplicate ∧
        (s.events.threshold < 64 → mode.toNat % 64 = s.events.threshold) ∧
        mode.getLsbD 7 = decide (s.events.lineMode = .pulse))

/-- R152, R153, R161, R186: READ_COUNTERS returns the nine counters, most significant byte first, and changes
none; CLEAR_COUNTERS sets to 0 the counters whose bits are set, and no other. -/
def Obligations.CountersReadAndClear : Prop :=
  ∀ (named : BitVec 16) (s : State), s.ctl.station ≠ .loading →
    let k := s.events.counters
    let list := [k.corruptFrames, k.collisions, k.lateCompletions, k.malformedCompletions, k.refusalsGiven,
      k.busyGiven, k.responsesDropped, k.memoryFaults, k.hostFrameErrors]
    (s.openFor .readCounters [] →
      ∃ bytes : List Byte,
        exec .readCounters s = .next
          { s with
            host :=
              { s.host with
                decoder := .response, taken := some (.readCounters, .done), reply := 0x00 :: bytes,
                clocked := 0 } } ∧
        bytes.length = 18 ∧
        ∀ i : Fin 9, bytes.getD (2 * i.val) 0 ++ bytes.getD (2 * i.val + 1) 0 = list.getD i.val 0) ∧
    (s.openFor .clearCounters (bytes2 named) →
      ∃ k' : Counters,
        exec (.clearCounters named) s = .next
          { s with
            events := { s.events with counters := k' }
            host :=
              { s.host with
                decoder := .response, taken := some (.clearCounters, .done), reply := [0x00],
                clocked := 0 } } ∧
        ∀ i : Fin 9,
          [k'.corruptFrames, k'.collisions, k'.lateCompletions, k'.malformedCompletions, k'.refusalsGiven,
            k'.busyGiven, k'.responsesDropped, k'.memoryFaults, k'.hostFrameErrors].getD i.val 0 =
          if named.getLsbD i.val = true then 0 else list.getD i.val 0)

/-- R75, R76, R162: SUBMIT answers WRONG_STATE, BAD_DESCRIPTOR, FULL or DONE, in that order, and queues the
descriptor at the tail with DONE alone. -/
def Obligations.SubmitDecides : Prop :=
  ∀ (d : RawDescriptor) (s : State), s.openFor .submit d.bytes →
    let answered (r : ResultCode) (code : Byte) : HostPort :=
      { s.host with decoder := .response, taken := some (.submit, r), reply := [code], clocked := 0 }
    (s.ctl.station ∈ [StationState.loading, .draining, .detached] →
      exec (.submit d) s = .next { s with host := answered .wrongState 0x04 }) ∧
    (s.ctl.station ∈ [StationState.config, .joining, .online] →
      ((∀ op, ¬ d.meets op) →
        exec (.submit d) s = .next { s with host := answered .badDescriptor 0x03 }) ∧
      (∀ op, d.meets op →
        (32 ≤ s.issue.requestQueue.length →
          exec (.submit d) s = .next { s with host := answered .full 0x01 }) ∧
        (s.issue.requestQueue.length < 32 →
          exec (.submit d) s = .next
            { s with
              issue :=
                { s.issue with requestQueue := s.issue.requestQueue ++ [d.queued op] }
              host := answered .done 0x00 })))

/-- R122, R128, R162, R186: TAKE_COMPLETION and TAKE_NOTIFY answer EMPTY with filler, or DONE with the head
record, and leave the queue and the mailbox as they are. The bytes of absent fields are free (log entry 2). -/
def Obligations.TakesOfferTheOldestRecord : Prop :=
  (∀ s : State, s.openFor .takeCompletion [] → s.ctl.station ≠ .loading →
     (s.completion.queue = [] →
       exec .takeCompletion s = .next
         { s with
           host :=
             { s.host with
               decoder := .response, taken := some (.takeCompletion, .empty),
               reply := 0x02 :: List.replicate 10 0xFF, clocked := 0 } }) ∧
     (∀ r rest, s.completion.queue = r :: rest →
       ∃ flags target counts v0 v1 v2 v3 : Byte,
         exec .takeCompletion s = .next
           { s with
             host :=
               { s.host with
                 decoder := .response, taken := some (.takeCompletion, .done),
                 reply :=
                   [0x00,
                    (match r.status with
                     | .ok => 0 | .denied => 1 | .unclaimed => 2 | .conflict => 3 | .busyExhausted => 4
                     | .corruptExhausted => 5 | .timeout => 6 | .targetLost => 7 | .remoteFault => 8
                     | .localFault => 9 | .aborted => 10),
                    flags, target, counts, r.cookie.extractLsb' 8 8, r.cookie.extractLsb' 0 8,
                    v0, v1, v2, v3]
                 clocked := 0 }
             freeIndex := s.freeIndex + 1 } ∧
         flags.toNat % 8 = (match r.op with
           | .write => 1 | .writeAcked => 2 | .read => 3 | .swap => 4) ∧
         flags.getLsbD 4 = r.target.isSome ∧ flags.getLsbD 5 = r.oldValue.isSome ∧
         (r.oldValue.isSome = true → flags.getLsbD 6 = decide (r.swapped = some true)) ∧
         flags.getLsbD 7 = r.urgent ∧
         (∀ n, r.target = some n → target.toNat = n.val) ∧
         (r.busyRetries ≤ 8 → r.corruptResends ≤ 3 →
           counts.toNat / 16 = r.busyRetries ∧ counts.toNat % 16 = r.corruptResends) ∧
         (∀ v, r.oldValue = some v → [v0, v1, v2, v3] = v.toList))) ∧
  (∀ s : State, s.openFor .takeNotify [] → s.ctl.station ≠ .loading →
     (s.mailbox.records = [] →
       exec .takeNotify s = .next
         { s with
           host :=
             { s.host with
               decoder := .response, taken := some (.takeNotify, .empty),
               reply := 0x02 :: List.replicate 7 0xFF, clocked := 0 } }) ∧
     (∀ r rest, s.mailbox.records = r :: rest →
       ∃ first : Byte,
         exec .takeNotify s = .next
           { s with
             host :=
               { s.host with
                 decoder := .response, taken := some (.takeNotify, .done),
                 reply :=
                   0x00 :: first :: BitVec.ofNat 8 (r.wordOffset / 256) :: BitVec.ofNat 8 r.wordOffset
                     :: r.value
                 clocked := 0 } } ∧
         first.getLsbD 7 = r.acked ∧ first.toNat / 16 % 8 = r.window.val ∧ first.toNat % 16 = r.source.val))

/-- R146, R148, R149: ACK_EVENTS clears the categories it names with their cause sets; COMPLETION and NOTIFY
are pending again when records remain that make them so. In PULSE mode an unmasked one that is pending again
gains a pulse. Nothing else changes. -/
def Obligations.AckEventsClearsAndReEvaluates : Prop :=
  ∀ (named : Byte) (s : State), s.openFor .ackEvents [named] → s.ctl.station ≠ .loading →
    let again : Bool :=
      decide (s.events.threshold ≤ s.completion.queue.length) || s.completion.queue.any (fun r => r.urgent)
    let records : Bool := decide (s.mailbox.records ≠ [])
    exec (.ackEvents named) s = .next
      { s with
        events :=
          { s.events with
            pending :=
              { completion := if named.getLsbD 0 = true then again else s.events.pending.completion
                notify := if named.getLsbD 1 = true then records else s.events.pending.notify
                trunk := if named.getLsbD 2 = true then false else s.events.pending.trunk
                fault := if named.getLsbD 3 = true then false else s.events.pending.fault }
            trunkCauses :=
              if named.getLsbD 2 = true then ⟨false, false, false, false⟩ else s.events.trunkCauses
            faultCauses :=
              if named.getLsbD 3 = true then ⟨false, false, false, false, false, false⟩
              else s.events.faultCauses
            pulsing :=
              match s.events.lineMode with
              | .level => s.events.pulsing
              | .pulse =>
                s.events.pulsing || (named.getLsbD 0 && again && !s.events.mask.completion)
                  || (named.getLsbD 1 && records && !s.events.mask.notify) }
        host :=
          { s.host with
            decoder := .response, taken := some (.ackEvents, .done), reply := [0x00], clocked := 0 } }

/-- R147, R149: SET_MASK replaces the four mask flags, and in PULSE mode a pending category it unmasks gains a
pulse; SET_THRESHOLD takes a value in 1..32 and answers CONFIG_INVALID to any other. Nothing else changes. -/
def Obligations.SetMaskAndThreshold : Prop :=
  ∀ (v : Byte) (s : State), s.ctl.station ≠ .loading →
    (s.openFor .setMask [v] →
      exec (.setMask v) s = .next
        { s with
          events :=
            { s.events with
              mask := ⟨v.getLsbD 0, v.getLsbD 1, v.getLsbD 2, v.getLsbD 3⟩
              pulsing :=
                match s.events.lineMode with
                | .level => s.events.pulsing
                | .pulse =>
                  s.events.pulsing
                    || (s.events.pending.completion && s.events.mask.completion && !v.getLsbD 0)
                    || (s.events.pending.notify && s.events.mask.notify && !v.getLsbD 1)
                    || (s.events.pending.trunk && s.events.mask.trunk && !v.getLsbD 2)
                    || (s.events.pending.fault && s.events.mask.fault && !v.getLsbD 3) }
          host :=
            { s.host with
              decoder := .response, taken := some (.setMask, .done), reply := [0x00], clocked := 0 } }) ∧
    (s.openFor .setThreshold [v] →
      (1 ≤ v.toNat ∧ v.toNat ≤ 32 →
        exec (.setThreshold v) s = .next
          { s with
            events := { s.events with threshold := v.toNat }
            host :=
              { s.host with
                decoder := .response, taken := some (.setThreshold, .done), reply := [0x00],
                clocked := 0 } }) ∧
      (v.toNat = 0 ∨ 32 < v.toNat →
        exec (.setThreshold v) s = .next
          { s with
            host :=
              { s.host with
                decoder := .response, taken := some (.setThreshold, .configInvalid), reply := [0x05],
                clocked := 0 } }))

/-- R148, R149, R150, R163: SET_LINE_MODE takes LEVEL or PULSE, a change ending a pulse in progress, and
answers CONFIG_INVALID to any other code. The end of a pulse releases the line. In LEVEL mode HINT# is asserted
exactly when some category is both pending and unmasked, in PULSE mode while a pulse is driven. -/
def Obligations.InterruptLine : Prop :=
  ∀ (code : Byte) (s : State),
    (s.openFor .setLineMode [code] → s.ctl.station ≠ .loading →
      (∀ m : LineMode, code.toNat = (match m with
          | .level => 0
          | .pulse => 1) →
        exec (.setLineMode code) s = .next
          { s with
            events :=
              { s.events with
                lineMode := m
                pulsing := if m = s.events.lineMode then s.events.pulsing else false }
            host :=
              { s.host with
                decoder := .response, taken := some (.setLineMode, .done), reply := [0x00], clocked := 0 } }) ∧
      (2 ≤ code.toNat →
        exec (.setLineMode code) s = .next
          { s with
            host :=
              { s.host with
                decoder := .response, taken := some (.setLineMode, .configInvalid), reply := [0x05],
                clocked := 0 } })) ∧
    exec .hintPulseEnd s = .next { s with events := { s.events with pulsing := false } } ∧
    (s.held = false →
      s.hintAsserted = (match s.events.lineMode with
        | .level =>
          (s.events.pending.completion && !s.events.mask.completion)
            || (s.events.pending.notify && !s.events.mask.notify)
            || (s.events.pending.trunk && !s.events.mask.trunk)
            || (s.events.pending.fault && !s.events.mask.fault)
        | .pulse => s.events.pulsing))

/-- R164, R186: CONFIG_READ, in CONFIG, reports the item as it stands and changes nothing; an index outside
0..7, or a selector that names no item, is answered CONFIG_INVALID. The model's choice, log entry 2: bits that the
layout leaves open are free. -/
def Obligations.ConfigReadReports : Prop :=
  ∀ s : State, s.ctl.station = .config →
    let answered (r : ResultCode) (reply : List Byte) : HostPort :=
      { s.host with decoder := .response, taken := some (.configRead, r), reply := reply, clocked := 0 }
    (s.openFor .configRead [0x01] →
      exec (.configRead .number) s = .next
        { s with host := answered .done [0x00, BitVec.ofNat 8 s.ctl.number.val] }) ∧
    (s.openFor .configRead [0x02] →
      exec (.configRead .ct) s = .next
        { s with
          host := answered .done [0x00, BitVec.ofNat 8 (s.ctl.ct.toNat / 256), BitVec.ofNat 8 s.ctl.ct.toNat] }) ∧
    (s.openFor .configRead [0x03] →
      exec (.configRead .waitLimit) s = .next { s with host := answered .done [0x00, s.ctl.waitLimit] }) ∧
    (∀ w : WindowIdx, s.openFor .configRead [0x04, BitVec.ofNat 8 w.val] →
      ∃ flags last : Byte,
        exec (.configRead (.window (BitVec.ofNat 8 w.val))) s = .next
          { s with
            host :=
              answered .done
                (0x00 :: flags :: bytes4 (s.windows[w]).config.trunkBase
                  ++ bytes3 (s.windows[w]).config.length ++ bytes3 (s.windows[w]).config.localBase
                  ++ bytes2 (s.windows[w]).config.allowed
                  ++ (s.windows[w]).conflictCount :: bytes2 (s.windows[w]).refusalCount ++ [last])
            freeIndex := s.freeIndex + 1 } ∧
        flags.getLsbD 7 = (s.windows[w]).config.enabled ∧
        flags.getLsbD 4 = decide ((s.windows[w]).config.kind = .notify) ∧ flags.getLsbD 5 = false ∧
        flags.getLsbD 1 = (s.windows[w]).config.readRight ∧
        flags.getLsbD 0 = (s.windows[w]).config.writeRight ∧
        last.getLsbD 7 = (s.windows[w]).lastRefusal.isSome ∧
        (∀ reason src, (s.windows[w]).lastRefusal = some (reason, src) →
          last.toNat % 16 = src.val ∧
          last.toNat / 16 % 8 = (match reason with
            | .range => 1 | .initiator => 2 | .rights => 3 | .notifyForm => 4 | .swapAlign => 5))) ∧
    (∀ index : Byte, 8 ≤ index.toNat → s.openFor .configRead [0x04, index] →
      exec (.configRead (.window index)) s = .next
        { s with host := answered .configInvalid (0x05 :: List.replicate 17 0xFF) }) ∧
    (∀ sel : Byte, sel ≠ 1 → sel ≠ 2 → sel ≠ 3 → sel ≠ 4 → s.openFor .configRead [sel] →
      exec (.configRead (.noItem sel)) s = .next { s with host := answered .configInvalid [0x05] })

/-- R165, R4, R47: CONFIG_WRITE, in CONFIG, stores the item as given, or refuses it with CONFIG_INVALID and
stores nothing. Nothing else changes. -/
def Obligations.ConfigWriteStores : Prop :=
  ∀ s : State, s.ctl.station = .config →
    let answered (r : ResultCode) (code : Byte) : HostPort :=
      { s.host with decoder := .response, taken := some (.configWrite, r), reply := [code], clocked := 0 }
    (∀ v : Byte, s.openFor .configWrite [0x01, v] →
      (16 ≤ v.toNat →
        exec (.configWrite (.number v)) s = .next { s with host := answered .configInvalid 0x05 }) ∧
      (∀ n : StationNo, v.toNat = n.val →
        exec (.configWrite (.number v)) s = .next
          { s with
            ctl := { s.ctl with number := n }
            presence :=
              { s.presence with
                table := Vector.ofFn (fun m =>
                  if m = n then .self else if m = s.ctl.number then .absent else s.presence.table[m]) }
            host := answered .done 0x00 })) ∧
    (∀ v : BitVec 16, s.openFor .configWrite (0x02 :: bytes2 v) →
      exec (.configWrite (.ct v)) s = .next
        { s with
          ctl := { s.ctl with ct := BitVec.ofNat 12 (v.toNat % 4096) }, host := answered .done 0x00 }) ∧
    (∀ v : Byte, s.openFor .configWrite [0x03, v] →
      (1 ≤ v.toNat ∧ v.toNat ≤ 15 →
        exec (.configWrite (.waitLimit v)) s = .next
          { s with ctl := { s.ctl with waitLimit := v }, host := answered .done 0x00 }) ∧
      (v.toNat = 0 ∨ 15 < v.toNat →
        exec (.configWrite (.waitLimit v)) s = .next { s with host := answered .configInvalid 0x05 })) ∧
    (∀ (index : Byte) (raw : RawWindow), s.openFor .configWrite (0x04 :: index :: raw.bytes) →
      (8 ≤ index.toNat ∨ raw.flags.getLsbD 5 = true →
        exec (.configWrite (.window index raw)) s = .next { s with host := answered .configInvalid 0x05 }) ∧
      (∀ w : WindowIdx, index.toNat = w.val → raw.flags.getLsbD 5 = false →
        exec (.configWrite (.window index raw)) s = .next
          { s with
            windows := s.windows.set w.val
              { config :=
                  { enabled := raw.flags.getLsbD 7
                    kind := if raw.flags.getLsbD 4 = true then .notify else .memory
                    trunkBase := raw.trunkBase
                    length := raw.length
                    localBase := raw.localBase
                    readRight := raw.flags.getLsbD 1
                    writeRight := raw.flags.getLsbD 0
                    allowed := raw.allowed }
                conflictCount := 0
                refusalCount := 0
                lastRefusal := none } w.isLt
            host := answered .done 0x00 })) ∧
    (∀ sel : Byte, sel ≠ 1 → sel ≠ 2 → sel ≠ 3 → sel ≠ 4 → s.openFor .configWrite [sel] →
      exec (.configWrite (.noItem sel)) s = .next { s with host := answered .configInvalid 0x05 })

/-! ### Changing the station state -/

/-- R16, R17, R166: the JOIN checks, window by window in index order, each window's conditions in the order of
the table, then CT. -/
def Obligations.JoinChecksInOrder : Prop :=
  ∀ (ws : Vector Window 8) (ct : BitVec 12),
    let fails (i : WindowIdx) (reason : JoinReason) : Prop :=
      let w := (ws[i]).config
      w.enabled = true ∧
        (match reason with
        | .baseAlign => w.trunkBase.toNat % 256 ≠ 0
        | .length => ¬ (w.length.toNat % 256 = 0 ∧ 256 ≤ w.length.toNat ∧ w.length.toNat ≤ 262144)
        | .trunkRange => 4294967296 < w.trunkBase.toNat + w.length.toNat
        | .localRange => w.kind = .memory ∧
            ¬ (w.localBase.toNat % 256 = 0 ∧ w.localBase.toNat + w.length.toNat ≤ 262144)
        | .overlap => ∃ j : WindowIdx, j < i ∧ (ws[j]).config.enabled = true
            ∧ (ws[j]).config.trunkBase.toNat < w.trunkBase.toNat + w.length.toNat
            ∧ w.trunkBase.toNat < (ws[j]).config.trunkBase.toNat + (ws[j]).config.length.toNat
        | .ctRange => False)
    let timely : Prop := 640 ≤ ct.toNat ∧ ct.toNat ≤ 4095
    (joinFault ws ct = none ↔ (∀ i r, ¬ fails i r) ∧ timely) ∧
    (∀ r i, joinFault ws ct = some (r, some i) ↔
      fails i r ∧ (∀ r' : JoinReason, r'.code < r.code → ¬ fails i r') ∧ ∀ j < i, ∀ r', ¬ fails j r') ∧
    (∀ r, joinFault ws ct = some (r, none) ↔ r = .ctRange ∧ (∀ i r, ¬ fails i r) ∧ ¬ timely)

/-- R166, R177, R186: JOIN, in CONFIG, answers ORT_BUSY, CONFIG_INVALID with the fault found, or DONE, in that
order; with DONE alone the station enters JOINING, and a refused JOIN changes nothing. By the model's choice, log
entry 19, the trunk then counts as busy until ROUND_OPEN; what makes the TIF quiet is log entry 11. -/
def Obligations.JoinEntersJoining : Prop :=
  ∀ s : State, s.openFor .join [] → s.ctl.station = .config →
    let busy : Prop := (∃ t, (s.entry t).state ≠ .free) ∨ s.completion.retire ≠ [] ∨ s.port ≠ none
      ∨ s.tifQuiet = false
    let answered (r : ResultCode) (reply : List Byte) : HostPort :=
      { s.host with decoder := .response, taken := some (.join, r), reply := reply, clocked := 0 }
    (busy → exec .join s = .next { s with host := answered .ortBusy [0x06, 0xFF, 0xFF] }) ∧
    (∀ reason w, ¬ busy → joinFault s.windows s.ctl.ct = some (reason, w) →
      exec .join s = .next
        { s with
          host := answered .configInvalid
            [0x05,
             (match reason with
              | .baseAlign => 1 | .length => 2 | .trunkRange => 3 | .localRange => 4 | .overlap => 5
              | .ctRange => 6),
             (match w with
              | some i => BitVec.ofNat 8 i.val
              | none => 0xFF)] }) ∧
    (¬ busy → joinFault s.windows s.ctl.ct = none →
      exec .join s = .next
        { s with
          ctl := { s.ctl with station := .joining, joinHoldoff := some 1024 }
          windows := s.windows.map (fun w =>
            { w with conflictCount := 0, refusalCount := 0, lastRefusal := none })
          access := { s.access with sync := .lost, collisions := 0 }
          tif := { tx := none, exchange := none, corruptNext := false, incoming := false, trunk := .busy }
          host := answered .done [0x00, 0xFF, 0xFF] })

/-- R167, R179, R180, R116, R36, R45, R46: LEAVE, in ONLINE, puts the station in DRAINING and changes nothing
else. DRAINING ends in CONFIG when the station is at rest, and not before; STALE entries become FREE, and the
blocks of the trunk side return to their values for CONFIG. By the model's choice, log entry 19, the trunk then counts
as busy; what makes the TIF quiet is log entry 11, and the end of draining is its own command by log entry 12. -/
def Obligations.LeaveAndEndOfDraining : Prop :=
  ∀ s : State,
    let atRest : Prop := s.ctl.station = .draining
      ∧ (∀ t, (s.entry t).state = .free ∨ ∃ k, (s.entry t).state = .stale k)
      ∧ s.completion.retire = [] ∧ s.target.service = [] ∧ s.target.responses = []
      ∧ s.port = none ∧ s.tifQuiet = true;
    (s.openFor .leave [] → s.ctl.station = .online →
      exec .leave s = .next
        { s with
          ctl := { s.ctl with station := .draining }
          host :=
            { s.host with
              decoder := .response, taken := some (.leave, .done), reply := [0x00], clocked := 0 } }) ∧
    (¬ atRest → exec .endOfDraining s = .next s) ∧
    (atRest → ∃ t : State, exec .endOfDraining s = .next t ∧
      (∀ g, (s.entry g).state = .free → t.entry g = s.entry g) ∧
      (∀ g, (t.entry g).state = .free) ∧
      t.ort.issueOrder.Sublist s.ort.issueOrder ∧
      (∀ g, g ∈ t.ort.issueOrder ↔ g ∈ s.ort.issueOrder ∧ ∀ k, (s.entry g).state ≠ .stale k) ∧
      t = { s with
            ctl := { s.ctl with station := .config, joinHoldoff := none }
            access := { s.access with sync := .lost, collisions := 0 }
            presence :=
              { table := Vector.ofFn (fun n => if n = s.ctl.number then .self else .absent)
                beaconTimer := .stopped
                beaconQueued := false }
            tif := { tx := none, exchange := none, corruptNext := false, incoming := false, trunk := .busy }
            ort := t.ort })

/-- R181, R78, R114, R71, R129, R139, R36, R45, R46, R30: ABORT, in JOINING, ONLINE, DRAINING and DETACHED, puts
the station in CONFIG with the effect of the table on each block, and returns the number of descriptors
removed. By the model's choice, log entry 19, the trunk then counts as busy; which marks are dropped is log entry 11. -/
def Obligations.AbortEntersConfig : Prop :=
  ∀ s : State, s.openFor .abort [] →
    s.ctl.station ∈ [StationState.joining, .online, .draining, .detached] →
    ∃ t : State, exec .abort s = .next t ∧
      t.ctl = { s.ctl with station := .config, joinHoldoff := none } ∧
      t.issue.requestQueue = [] ∧
      RequestsEnded s t ∧ TargetEmptied s t ∧
      t.access = { s.access with sync := .lost, collisions := 0 } ∧
      t.presence =
        { table := Vector.ofFn (fun n => if n = s.ctl.number then .self else .absent)
          beaconTimer := .stopped
          beaconQueued := false } ∧
      t.tif.tx = s.tif.tx ∧ t.tif.trunk = .busy ∧ t.tif.corruptNext = false ∧ t.tif.incoming = false ∧
      (∀ e, s.tif.exchange = some e →
        (e.sender = none → (e.begun = false ∨ e.mark = .none) → t.tif.exchange = none) ∧
        (e.begun = true → e.mark ≠ .none → t.tif.exchange = some e) ∧
        (∀ o, e.sender = some o → e.begun = false → t.tif.exchange = some { e with mark := .none }) ∧
        (∀ o, e.sender = some o → e.begun = true → t.tif.exchange = some e)) ∧
      (s.tif.exchange = none → t.tif.exchange = none) ∧
      t.host =
        { s.host with
          decoder := .response, taken := some (.abort, .done),
          reply := [0x00, BitVec.ofNat 8 s.issue.requestQueue.length], clocked := 0 } ∧
      t = { s with
            ctl := t.ctl
            access := t.access
            presence := t.presence
            tif := t.tif
            target := t.target
            issue := t.issue
            ort := t.ort
            completion := t.completion
            mailbox := t.mailbox
            port := t.port
            host := t.host }

/-! ### Trunk access -/

/-- R23, R37: the trunk becomes idle, or slot 47 ends, and a round opens; another station's frame starts, and the
receiver has its start delimiter and the round ends. A station whose receiver is off takes neither, and one that
transmits no start delimiter. No round opens at a station with part in an exchange (R180, log entry 11), before a slot
that follows a frame has ended, while a frame is passing, or before slot 47 of the round in progress has begun. The
count of slots has no other change: no command opens a round but ROUND_OPEN, and none moves it on but the next
slot, by one. That the opening and each slot are commands of their own is the model's choice (log entry 19). -/
def Obligations.RoundsOpenAndEnd : Prop :=
  ∀ s : State,
    (s.tifQuiet = true ↔ s.tif.tx = none ∧ s.tif.corruptNext = false ∧
      ∀ e, s.tif.exchange = some e → e.sender = none ∧ e.mark = .none) ∧
    (s.ctl.station ∈ [StationState.joining, .online, .draining, .detached] →
      (s.tifQuiet = true → s.tif.exchange = none → s.tif.incoming = false →
        s.tif.trunk ∈ [Trunk.busy, .idle 48] →
        exec .roundOpen s = .next { s with tif := { s.tif with trunk := .idle 0 } }) ∧
      (s.tif.tx = none →
        exec .startDelimiterSeen s = .next { s with tif := { s.tif with incoming := true, trunk := .busy } })) ∧
    (s.ctl.station ∈ [StationState.loading, .config] ∨ s.tifQuiet = false ∨ s.tif.exchange ≠ none
        ∨ s.tif.incoming = true ∨ s.tif.trunk ∉ [Trunk.busy, .idle 48] →
      exec .roundOpen s = .next s) ∧
    (s.ctl.station ∈ [StationState.loading, .config] ∨ s.tif.tx ≠ none → exec .startDelimiterSeen s = .next s) ∧
    (∀ (i : Instr) (t : State) (next : Nat), exec i s = .next t → t.tif.trunk = .idle next →
      s.tif.trunk = .idle next ∨ (i = .roundOpen ∧ next = 0) ∨
        ∃ slot : Fin 48, i = .contentionSlot slot ∧ s.tif.trunk = .idle slot.val ∧ next = slot.val + 1)

/-- R37, R38, R39, R88, R19, R20: with the trunk idle, ONLINE or DRAINING, the station starts in its slot the frame
that the table gives, and in every other slot it starts none and the slot is counted. Only the next slot of the round
begins, so a station with a completion waiting when its class A slot begins does not reach its class B slot. While
the trunk is busy nothing happens. -/
def Obligations.ContentionSlotStartsTheOfferedFrame : Prop :=
  ∀ (slot : Fin 48) (s : State),
    (s.tif.trunk ≠ .idle slot.val → exec (.contentionSlot slot) s = .next s) ∧
    (s.tif.trunk = .idle slot.val → s.ctl.station ∈ [StationState.loading, .config] ∨ s.tifQuiet = false →
      exec (.contentionSlot slot) s = .next s) ∧
    (s.tif.trunk = .idle slot.val → s.tifQuiet = true →
      let own := s.ctl.number.val
      let p := (own + 15 - s.access.rotation.val) % 16
      let started (f : Frame) (o : Origin) (target : TargetEngine) : State :=
        { s with
          tif :=
            { tx := some ⟨f, o⟩, exchange := none, corruptNext := false, incoming := false, trunk := .busy }
          target := target }
      let counted : State := { s with tif := { s.tif with trunk := .idle (slot.val + 1) } }
      let forCompletion : Prop :=
        (s.access.sync = .inSync ∧ slot.val = p) ∨ (s.access.sync = .lost ∧ slot.val = 32 + own)
      let forRequest : Prop :=
        (s.access.sync = .inSync ∧ slot.val = 16 + p)
          ∨ (s.access.sync = .lost ∧ slot.val = 32 + own ∧ s.target.responses = [])
      let readyFirst : Prop := ∃ g rest, s.issue.unsent = g :: rest ∧ (s.entry g).state = .ready
      (s.ctl.station ∈ [StationState.joining, .detached] →
        exec (.contentionSlot slot) s = .next counted) ∧
      (s.ctl.station ∈ [StationState.online, .draining] →
        (∀ r rest, forCompletion → s.target.responses = r :: rest →
          exec (.contentionSlot slot) s = .next
            (started
              (.completion
                { source := s.ctl.number, destination := r.destination, tag := r.tag, status := r.status,
                  swapped := r.swapped, data := r.data })
              (.completion r.destination)
              { s.target with responses := { r with onTrunk := true } :: rest })) ∧
        (∀ g rest, forRequest → s.issue.unsent = g :: rest → (s.entry g).state = .ready →
          exec (.contentionSlot slot) s = .next
            (started
              (.request
                { source := s.ctl.number
                  address := (s.entry g).address
                  body :=
                    match (s.entry g).op with
                    | .write => .write ((s.entry g).buffer.take (s.entry g).length)
                    | .writeAcked => .writeAcked g ((s.entry g).buffer.take (s.entry g).length)
                    | .read => .read g (s.entry g).length
                    | .swap =>
                      .swap g ((s.entry g).compareValue.getD (Vector.replicate 4 0))
                        ((s.entry g).newValue.getD (Vector.replicate 4 0)) })
              (.request g) s.target)) ∧
        (forRequest → ¬ readyFirst → s.presence.beaconQueued = true →
          exec (.contentionSlot slot) s = .next (started (.beacon s.ctl.number) .beacon s.target)) ∧
        (¬ (forCompletion ∧ s.target.responses ≠ []) →
          ¬ (forRequest ∧ (readyFirst ∨ s.presence.beaconQueued = true)) →
          exec (.contentionSlot slot) s = .next counted)))

/-- R43, R44, R45, R25, R22: an own frame sent to its end is an own transmission and a clean reception of its
own: the collision count returns to 0, the beacon timer restarts, a queued beacon is taken off, the station is
IN_SYNC behind itself, and the frame goes on by its kind. After ABORT or entry to DETACHED the Access Unit and
the beacon timer take nothing from it, nor, in DETACHED, the presence entry of the own number, which is SELF. -/
def Obligations.OwnFrameSentCounts : Prop :=
  ∀ s : State,
    (s.tif.tx = none → exec .ownFrameSent s = .next s) ∧
    (∀ f o, s.tif.tx = some ⟨f, o⟩ →
      let after : Tif :=
        { tx := none, exchange := none, corruptNext := false, incoming := false, trunk := .busy }
      let sent : State :=
        { s with
          tif := after
          access := { rotation := f.source, sync := .inSync, collisions := 0 }
          presence := { s.presence with beaconTimer := .running 256, beaconQueued := false } }
      let still : State := { s with tif := after }
      (s.ctl.station ∈ [StationState.online, .draining] → s.presence.table[f.source] = .self →
        (∀ src, f = .beacon src → exec .ownFrameSent s = .next sent) ∧
        (∀ r, f = .request r →
          exec .ownFrameSent s = .next
            (if s.ctl.station = .online then
              (sent.decideClaim r).1.slotAhead (some o) (sent.decideClaim r).2
            else sent.slotAhead (some o) .none)) ∧
        (∀ c, f = .completion c →
          exec .ownFrameSent s = .next
            (if c.destination = s.ctl.number then (sent.ortCompletion c).slotAhead (some o) .completion
            else sent.slotAhead (some o) .none))) ∧
      (s.ctl.station ∈ [StationState.loading, .config, .joining]
          ∨ (s.ctl.station = .detached ∧ s.presence.table[f.source] = .self) →
        (∀ src, f = .beacon src → exec .ownFrameSent s = .next still) ∧
        ((∀ src, f ≠ .beacon src) →
          exec .ownFrameSent s = .next (still.slotAhead (some o) .none))))

/-- R24, R41, R42, R182: a collision abandons the frame with no slot and no outcome and is counted; sync becomes
LOST and the consecutive-collision count goes up by 1; the fourth in a row takes the station to DETACHED. After
ABORT or entry to DETACHED it is counted and nothing more. -/
def Obligations.CollisionAbandonsTheFrame : Prop :=
  ∀ s : State,
    (s.tif.tx = none → exec .collision s = .next s) ∧
    (s.tif.tx ≠ none →
      let abandoned : State :=
        { s with
          tif := { tx := none, exchange := none, corruptNext := false, incoming := false, trunk := .busy }
          target :=
            { s.target with
              responses := s.target.responses.map (fun r => { r with onTrunk := false }) }
          events :=
            { s.events with
              counters :=
                { s.events.counters with
                  collisions := BitVec.ofNat 16 (min 65535 (s.events.counters.collisions.toNat + 1)) } } }
      let lost (n : Nat) : State :=
        { abandoned with
          access := { s.access with sync := .lost, collisions := n }
          events :=
            if s.access.sync = .inSync then abandoned.events.raiseTrunk .syncLost else abandoned.events }
      (s.ctl.station ∈ [StationState.loading, .config, .joining, .detached] →
        exec .collision s = .next abandoned) ∧
      (s.ctl.station ∈ [StationState.online, .draining] →
        (s.access.collisions < 3 → exec .collision s = .next (lost (s.access.collisions + 1))) ∧
        (s.access.collisions = 3 → ∃ t, exec .collision s = .next t ∧
          EntersDetached (lost 4) t .collisionLimit)))

/-! ### Receptions -/

/-- R5 to R13: the Window Decoder's result. The window is one which is enabled and holds the first byte address; the
model's choice, log entry 15, is that of the lowest index when a table that breaks the table law has several. The
first check that fails gives the reason; a request that passes all five is permitted with its local address or word
offset. -/
def Obligations.WindowDecision : Prop :=
  ∀ (ws : Vector Window 8) (f : ReqFrame),
    let a := f.address.toNat
    let n := f.body.length
    let op := f.body.op
    let matched (i : WindowIdx) : Prop := (ws[i]).config.enabled = true ∧ (ws[i]).config.holds a
    let fails (i : WindowIdx) (reason : RefusalReason) : Prop :=
      let w := (ws[i]).config
      match reason with
      | .range => w.trunkBase.toNat + w.length.toNat < a + n
      | .initiator => w.allowed.getLsbD f.source.val = false
      | .rights =>
        (op = .read ∧ w.readRight = false) ∨ ((op = .write ∨ op = .writeAcked) ∧ w.writeRight = false)
          ∨ (op = .swap ∧ ¬ (w.kind = .memory ∧ w.readRight = true ∧ w.writeRight = true))
      | .notifyForm =>
        w.kind = .notify ∧ ¬ ((op = .write ∨ op = .writeAcked) ∧ n = 4 ∧ a % 4 = 0)
      | .swapAlign => op = .swap ∧ a % 4 ≠ 0
    (lookup ws f = .noMatch ↔ ∀ i, ¬ matched i) ∧
    (∀ i reason, lookup ws f = .refuse i reason ↔
      matched i ∧ (∀ j < i, ¬ matched j) ∧ fails i reason
        ∧ ∀ r : RefusalReason, r.code < reason.code → ¬ fails i r) ∧
    (∀ i dest, lookup ws f = .permitted i dest ↔
      matched i ∧ (∀ j < i, ¬ matched j) ∧ (∀ r, ¬ fails i r)
        ∧ dest = (match (ws[i]).config.kind with
          | .memory => .memory ((ws[i]).config.localBase.toNat + (a - (ws[i]).config.trunkBase.toNat))
          | .notify => .notify ((a - (ws[i]).config.trunkBase.toNat) / 4)))

/-- R23, R25, R56, R57, R14, R28: a clean request frame of another station is heard by the Presence Monitor and the
Access Unit; in ONLINE the claim decision follows, with a refusal or a BUSY counted at the decision; in JOINING
and DRAINING it is not decoded, and in DETACHED it reaches the Presence Monitor alone. An ill-formed one is a
corrupt reception with a slot. With the receiver off, or the frame's start delimiter not seen, it is not received;
nor, by log entry 10, while an exchange of the station's own runs. -/
def Obligations.RequestFrameIsDecided : Prop :=
  ∀ (f : ReqFrame) (s : State),
    (s.ctl.station ∈ [StationState.loading, .config] ∨ s.tif.incoming = false ∨ s.tifQuiet = false →
      exec (.requestFrameReceived f) s = .next s) ∧
    (s.tifQuiet = true → f.wf = false →
      exec (.requestFrameReceived f) s = exec (.corruptReception true) s) ∧
    (f.wf = true → s.tifQuiet = true → s.tif.incoming = true →
    (f.source ≠ s.ctl.number → s.ctl.station = .online →
      (lookup s.windows f = .noMatch →
        exec (.requestFrameReceived f) s = .next ((s.heard f.source).slotAhead none .none)) ∧
      (∀ w reason, lookup s.windows f = .refuse w reason →
        exec (.requestFrameReceived f) s = .next
          ({ s.heard f.source with
              windows := s.windows.set w.val
                { s.windows[w] with
                  refusalCount := BitVec.ofNat 16 (min 65535 ((s.windows[w]).refusalCount.toNat + 1))
                  lastRefusal := some (reason, f.source) } w.isLt
              events := (s.heard f.source).events.countRefusal }.slotAhead none (.claim ⟨w, f, .refuse⟩))) ∧
      (∀ w dest, lookup s.windows f = .permitted w dest →
        let full : Prop := 8 ≤ s.target.service.length
          ∨ (f.body.tag.isSome = true ∧ 8 ≤ s.target.nonPosted)
          ∨ (dest.isNotify = true ∧ 16 ≤ s.mailbox.records.length + s.mailbox.reserved)
        (full →
          exec (.requestFrameReceived f) s = .next
            ({ s.heard f.source with events := (s.heard f.source).events.countBusy }.slotAhead none
              (.claim ⟨w, f, .busy⟩))) ∧
        (¬ full →
          exec (.requestFrameReceived f) s = .next
            ((s.heard f.source).slotAhead none (.claim ⟨w, f, .accept dest⟩))))) ∧
    (f.source ≠ s.ctl.number → s.ctl.station ∈ [StationState.joining, .draining] →
      exec (.requestFrameReceived f) s = .next ((s.heard f.source).slotAhead none .none)) ∧
    (s.ctl.station = .detached →
      exec (.requestFrameReceived f) s = .next
        ({ s.heard f.source with access := s.access }.slotAhead none .none)))

/-- R23, R101, R102, R103, R104, R33: a clean COMPLETION to the own number in ONLINE or DRAINING is acknowledged with
ACCEPT, and matched, found malformed, or counted late; in JOINING it is late and left unanswered; in DETACHED any
COMPLETION reaches the Presence Monitor alone. An ill-formed one is a corrupt reception with a slot. With the
receiver off, or the frame's start delimiter not seen, it is not received; nor, by log entry 10, while an exchange
of the station's own runs. -/
def Obligations.CompletionFrameIsMatched : Prop :=
  ∀ (f : CplFrame) (s : State),
    (s.ctl.station ∈ [StationState.loading, .config] ∨ s.tif.incoming = false ∨ s.tifQuiet = false →
      exec (.completionFrameReceived f) s = .next s) ∧
    (s.tifQuiet = true → f.wf = false →
      exec (.completionFrameReceived f) s = exec (.corruptReception true) s) ∧
    (f.wf = true → s.tifQuiet = true → s.tif.incoming = true →
    let h := s.heard f.source
    let e := s.entry f.tag
    let late : EventUnit := h.events.countLate
    (f.source ≠ s.ctl.number → f.destination ≠ s.ctl.number →
      s.ctl.station ∈ [StationState.joining, .online, .draining] →
      exec (.completionFrameReceived f) s = .next (h.slotAhead none .none)) ∧
    (s.ctl.station = .detached →
      exec (.completionFrameReceived f) s = .next ({ h with access := s.access }.slotAhead none .none)) ∧
    (f.source ≠ s.ctl.number → f.destination = s.ctl.number →
      (s.ctl.station = .joining →
        exec (.completionFrameReceived f) s = .next ({ h with events := late }.slotAhead none .none)) ∧
      (s.ctl.station ∈ [StationState.online, .draining] →
        let matched : Prop := (∃ k, e.state = .awaiting k) ∧ e.target = some f.source
        (matched → f.status = .ok → e.op = .read → f.data.length = e.length → f.swapped = false →
          exec (.completionFrameReceived f) s = .next
            ((h.setEntry f.tag { e with state := .storing, buffer := f.data }).slotAhead none
              .completion)) ∧
        (∀ v : Word4, matched → f.status = .ok → e.op = .swap → f.data = v.toList →
          exec (.completionFrameReceived f) s = .next
            ((h.enterDone f.tag { e with oldValue := some v, swapped := some f.swapped } .ok).slotAhead none
              .completion)) ∧
        (matched → f.status = .ok → e.op = .writeAcked → f.data = [] → f.swapped = false →
          exec (.completionFrameReceived f) s = .next
            ((h.enterDone f.tag e .ok).slotAhead none .completion)) ∧
        (matched → f.status = .memoryFault → e.op ≠ .write → f.data = [] → f.swapped = false →
          exec (.completionFrameReceived f) s = .next
            ((h.enterDone f.tag e .remoteFault).slotAhead none .completion)) ∧
        (matched →
          ((f.status = .memoryFault ∧ (f.data ≠ [] ∨ f.swapped = true))
            ∨ (f.status = .ok ∧ e.op = .read ∧ (f.data.length ≠ e.length ∨ f.swapped = true))
            ∨ (f.status = .ok ∧ e.op = .swap ∧ f.data.length ≠ 4)
            ∨ (f.status = .ok ∧ e.op = .writeAcked ∧ (f.data ≠ [] ∨ f.swapped = true))) →
          exec (.completionFrameReceived f) s = .next
            ({ h with events := h.events.countMalformed }.slotAhead none .completion)) ∧
        ((∃ k, e.state = .stale k) →
          exec (.completionFrameReceived f) s = .next
            ({ h.freeEntry f.tag with events := late }.slotAhead none .completion)) ∧
        (¬ matched → (∀ k, e.state ≠ .stale k) →
          exec (.completionFrameReceived f) s = .next
            ({ h with events := late }.slotAhead none .completion)))))

/-- R21, R23, R26, R40, R41, R48, R50: a clean BEACON of another station refreshes its presence entry, raising
PRESENCE_CHANGE when it was ABSENT, so that an expiry of its timer taken behind it does nothing, and outside DETACHED
makes it the rotation point and the station IN_SYNC; no slot follows. A corrupt reception is counted, makes sync LOST
outside DETACHED, and in ONLINE or DRAINING is marked CORRUPT in the slot that follows it. With the receiver off, the
frame's start delimiter not seen, or an own frame on the wire, neither is received. By log entry 10, both may come
while the station has part in a slot: that slot ends first, and the one of the corrupt frame is then the next. -/
def Obligations.BeaconAndCorruptReceptions : Prop :=
  ∀ (src : StationNo) (slotFollows : Bool) (s : State),
    (s.ctl.station ∈ [StationState.loading, .config] ∨ s.tif.incoming = false ∨ s.tif.tx ≠ none →
      exec (.beaconReceived src) s = .next s ∧ exec (.corruptReception slotFollows) s = .next s) ∧
    (s.tif.tx = none → s.tif.incoming = true →
      let presence : PresenceMonitor :=
        { s.presence with
          table :=
            if s.presence.table[src] = .self then s.presence.table
            else s.presence.table.set src.val (.present 768) src.isLt }
      let events : EventUnit :=
        if s.presence.table[src] = .absent then s.events.raiseTrunk .presenceChange else s.events
      let counted : EventUnit :=
        { s.events with
          counters :=
            { s.events.counters with
              corruptFrames := BitVec.ofNat 16 (min 65535 (s.events.counters.corruptFrames.toNat + 1)) } }
      let after : Tif :=
        { s.tif with
          exchange := if s.tifQuiet = true then none else s.tif.exchange, incoming := false, trunk := .busy }
      let slot (m : Mark) : Tif :=
        if s.tifQuiet = true then
          { s.tif with
            exchange := if slotFollows then some ⟨none, m, false, s.ctl.number⟩ else none
            incoming := false
            trunk := .busy }
        else
          { s.tif with
            corruptNext := s.tif.corruptNext || (slotFollows && decide (m = .corrupt))
            incoming := false
            trunk := .busy }
      (s.ctl.station ∈ [StationState.joining, .online, .draining] →
        (src ≠ s.ctl.number →
          let heard : State :=
            { s with
              access := { s.access with rotation := src, sync := .inSync }
              presence := presence
              tif := after
              events := events }
          exec (.beaconReceived src) s = .next heard ∧ exec (.presenceTimeout src) heard = .next heard) ∧
        exec (.corruptReception slotFollows) s = .next
          { s with
            access := { s.access with sync := .lost }
            tif := slot (if s.ctl.station = .joining then .none else .corrupt)
            events := if s.access.sync = .inSync then counted.raiseTrunk .syncLost else counted }) ∧
      (s.ctl.station = .detached →
        exec (.beaconReceived src) s = .next { s with presence := presence, tif := after, events := events } ∧
        exec (.corruptReception slotFollows) s = .next { s with tif := slot .none, events := counted })) ∧
    (∀ (cells : SlotCells) (e : Exchange), s.tif.exchange = some e → e.begun = true → s.tif.corruptNext = true →
      ∃ t, exec (.slotEnd cells) { s with tif := { s.tif with corruptNext := false } } = .next t ∧
        exec (.slotEnd cells) s = .next
          { t with tif := { t.tif with exchange := some ⟨none, .corrupt, false, s.ctl.number⟩ } })

/-- R35, R178, R182: a clean frame that carries the own number and that the station did not send fails the join
in JOINING, and detaches the station from ONLINE or DRAINING; the station drives no mark in its slot. A BEACON may
come while the station has part in a slot (log entry 10). By the model's choice, log entry 19, the trunk counts as busy
after a failed join. -/
def Obligations.DuplicateLeavesTheTrunk : Prop :=
  ∀ (i : Instr) (f : Frame) (s : State),
    (i = .beaconReceived s.ctl.number ∧ f = .beacon s.ctl.number
      ∨ (∃ r : ReqFrame, i = .requestFrameReceived r ∧ f = .request r ∧ r.wf = true)
      ∨ (∃ c : CplFrame, i = .completionFrameReceived c ∧ f = .completion c ∧ c.wf = true)) →
    f.source = s.ctl.number → s.tif.incoming = true → s.presence.table[s.ctl.number] = .self →
    (s.ctl.station = .joining → s.tifQuiet = true →
      exec i s = .next
        { s with
          ctl := { s.ctl with station := .config, joinHoldoff := none }
          access := { rotation := s.ctl.number, sync := .lost, collisions := 0 }
          presence :=
            { table := Vector.ofFn (fun n => if n = s.ctl.number then .self else .absent)
              beaconTimer := .stopped
              beaconQueued := false }
          tif := { tx := none, exchange := none, corruptNext := false, incoming := false, trunk := .busy }
          events := s.events.raiseFault .joinDuplicate ⟨.joinDuplicate, .joining, .station s.ctl.number⟩ }) ∧
    (s.ctl.station ∈ [StationState.online, .draining] → s.tif.tx = none →
      (f = .beacon s.ctl.number ∨ s.tifQuiet = true) →
      ∃ t, exec i s = .next t ∧
        EntersDetached
          { s with
            access := { s.access with rotation := s.ctl.number, sync := .inSync }
            tif :=
              { s.tif with
                exchange :=
                  if s.tifQuiet = true then
                    (if f = .beacon s.ctl.number then none else some ⟨none, .none, false, s.ctl.number⟩)
                  else s.tif.exchange
                incoming := false
                trunk := .busy } }
          t .duplicateStation)

/-! ### Timers of the trunk side -/

/-- R48, R50, R69, R106: when the presence timer of a station expires its entry becomes ABSENT, PRESENCE_CHANGE is
raised, every entry AWAITING it becomes DONE(TARGET_LOST) in issue order, and every response for it is removed,
its reservation released, and counted. Nothing else changes. A timer with ticks remaining, as a frame leaves it, has
not expired. -/
def Obligations.PresenceTimeoutLosesTheStation : Prop :=
  ∀ (st : StationNo) (s : State),
    (s.presence.table[st] ≠ .present 0 → exec (.presenceTimeout st) s = .next s) ∧
    (s.presence.table[st] = .present 0 →
      s.ctl.station ∈ [StationState.joining, .online, .draining, .detached] →
      let awaiting (g : Tag) : Prop :=
        (∃ k, (s.entry g).state = .awaiting k) ∧ (s.entry g).target = some st
      ∃ t : State, exec (.presenceTimeout st) s = .next t ∧
        t.presence = { s.presence with table := s.presence.table.set st.val .absent st.isLt } ∧
        (∀ g, awaiting g →
          t.entry g = { s.entry g with state := .done, result := some .targetLost, endingMark := false }) ∧
        (∀ g, ¬ awaiting g → t.entry g = s.entry g) ∧
        t.ort.issueOrder = s.ort.issueOrder ∧
        (∃ joined : List Tag, t.completion.retire = s.completion.retire ++ joined ∧
          joined.Sublist s.ort.issueOrder ∧ ∀ g, g ∈ joined ↔ g ∈ s.ort.issueOrder ∧ awaiting g) ∧
        t.target.responses = s.target.responses.filter (fun r => decide (r.destination ≠ st)) ∧
        (let gone := s.target.responses.countP (fun r => decide (r.destination = st))
        t.target.nonPosted = s.target.nonPosted - gone ∧
          t.events = (s.events.raiseTrunk .presenceChange).responsesDropped gone) ∧
        t = { s with
              presence := t.presence
              target :=
                { s.target with responses := t.target.responses, nonPosted := t.target.nonPosted }
              ort := { s.ort with entries := t.ort.entries }
              completion := { s.completion with retire := t.completion.retire }
              events := t.events })

/-- R44, R178: when the beacon timer expires a beacon is queued and the timer stays expired; when the join holdoff
expires the station enters ONLINE, the beacon timer starts and a beacon is queued. Nothing else changes. A timer with
ticks remaining has not expired (log entry 7). -/
def Obligations.BeaconAndHoldoffTimers : Prop :=
  ∀ s : State,
    (s.presence.beaconTimer = .running 0 → s.ctl.station ∈ [StationState.online, .draining] →
      exec .beaconTimerExpiry s = .next
        { s with presence := { s.presence with beaconTimer := .expired, beaconQueued := true } }) ∧
    (s.presence.beaconTimer ≠ .running 0 → exec .beaconTimerExpiry s = .next s) ∧
    (s.ctl.station = .joining → s.ctl.joinHoldoff = some 0 →
      exec .joinHoldoffExpiry s = .next
        { s with
          ctl := { s.ctl with station := .online, joinHoldoff := none }
          presence := { s.presence with beaconTimer := .running 256, beaconQueued := true } }) ∧
    (s.ctl.station ≠ .joining ∨ s.ctl.joinHoldoff ≠ some 0 → exec .joinHoldoffExpiry s = .next s)

/-- R67: when a response lifetime expires the reservation is released, counted as a drop, and RESPONSE_DROPPED
raised; a request still in the service queue keeps its place with the note, a response is removed wherever it
stands. A place that holds no live reservation has no lifetime to expire, and one with ticks remaining has not
expired (log entry 7). -/
def Obligations.LifetimeReleasesTheReservation : Prop :=
  ∀ (i : Fin 8) (s : State),
    let dropped : EventUnit :=
      { s.events.raiseTrunk .responseDropped with
        counters :=
          { s.events.counters with
            responsesDropped :=
              BitVec.ofNat 16 (min 65535 (s.events.counters.responsesDropped.toNat + 1)) } }
    (∀ e, s.target.service[i.val]? = some e → e.reservation = .live 0 →
      exec (.lifetimeExpiry (.service i)) s = .next
        { s with
          target :=
            { s.target with
              service := s.target.service.set i.val { e with reservation := .expired }
              nonPosted := s.target.nonPosted - 1 }
          events := dropped }) ∧
    ((∀ e, s.target.service[i.val]? = some e → e.reservation ≠ .live 0) →
      exec (.lifetimeExpiry (.service i)) s = .next s) ∧
    (∀ before r after, s.target.responses = before ++ r :: after → before.length = i.val → r.lifetime = 0 →
      exec (.lifetimeExpiry (.response i)) s = .next
        { s with
          target :=
            { s.target with responses := before ++ after, nonPosted := s.target.nonPosted - 1 }
          events := dropped }) ∧
    ((∀ r, s.target.responses[i.val]? = some r → r.lifetime ≠ 0) →
      exec (.lifetimeExpiry (.response i)) s = .next s)

/-! ### The acknowledgment slot -/

/-- R27, R28, R30, R185: the marks decided are driven from the beginning of the slot if the station is still
ONLINE or DRAINING, and not at all otherwise; a claim is driven as the own number and the code, each with its
complement. -/
def Obligations.SlotBeginDrivesTheMarks : Prop :=
  ∀ s : State,
    (s.tif.exchange = none → exec .slotBegin s = .next s) ∧
    (∀ e, s.tif.exchange = some e → e.begun = true → exec .slotBegin s = .next s) ∧
    (∀ e, s.tif.exchange = some e → e.begun = false →
      let n := BitVec.ofNat 4 e.number.val
      let driving : State := { s with tif := { s.tif with exchange := some { e with begun := true } } }
      let silent : State :=
        { s with tif := { s.tif with exchange := some { e with mark := .none, begun := true } } }
      (s.ctl.station ∈ [StationState.online, .draining] →
        exec .slotBegin s = .next driving ∧
        (e.mark = .none → driving.drives = ⟨false, 15, 15, 3, 3⟩) ∧
        (e.mark = .corrupt → driving.drives = ⟨true, 15, 15, 3, 3⟩) ∧
        (e.mark = .completion → driving.drives = ⟨false, n, ~~~n, 0, 3⟩) ∧
        (∀ c, e.mark = .claim c →
          (∀ d, c.decision = .accept d → driving.drives = ⟨false, n, ~~~n, 0, 3⟩) ∧
          (c.decision = .busy → driving.drives = ⟨false, n, ~~~n, 1, 2⟩) ∧
          (c.decision = .refuse → driving.drives = ⟨false, n, ~~~n, 2, 1⟩))) ∧
      (s.ctl.station ∈ [StationState.loading, .config, .joining, .detached] →
        exec .slotBegin s = .next silent ∧ silent.drives = ⟨false, 15, 15, 3, 3⟩))

/-- R29, R31: the outcome of a slot as read, by the first row of the table that applies. Two stations with different
numbers that both claim never read as one claim, whatever codes they drive and whatever further stations drive:
the claimant field is inconsistent, and so is the code field when their codes differ; the slot reads CONFLICT, or
CORRUPT when the CORRUPT mark is there. -/
def Obligations.SlotOutcomes : Prop :=
  (∀ c : SlotCells,
     let claimAbsent : Prop := c.number = 15 ∧ c.complement = 15
     let codeAbsent : Prop := c.code = 3 ∧ c.codeComplement = 3
     let consistent : Prop :=
       (∀ i : Fin 4, c.number.getLsbD i.val ≠ c.complement.getLsbD i.val)
         ∧ ∀ i : Fin 2, c.code.getLsbD i.val ≠ c.codeComplement.getLsbD i.val
     (c.corrupt = true → c.resolve = .corrupt) ∧
     (c.corrupt = false → claimAbsent → codeAbsent → c.resolve = .silent) ∧
     (∀ n : StationNo, c.corrupt = false → consistent → c.number.toNat = n.val →
       (c.code = 0 → c.resolve = .accept n) ∧ (c.code = 1 → c.resolve = .busy n) ∧
       (c.code = 2 → c.resolve = .refuse n)) ∧
     (c.corrupt = false → ¬ (claimAbsent ∧ codeAbsent) → ¬ (consistent ∧ c.code ≠ 3) →
       c.resolve = .conflict)) ∧
  (∀ (a b : StationNo) (c d : BitVec 2) (others : SlotCells), a ≠ b →
     (((SlotCells.claim a c).combine (SlotCells.claim b d)).combine others).resolve =
       if others.corrupt = true then .corrupt else .conflict) ∧
  (∀ (a b : StationNo) (c d : BitVec 2) (others : SlotCells),
     let read := ((SlotCells.claim a c).combine (SlotCells.claim b d)).combine others
     (a ≠ b → ∃ i : Fin 4, read.number.getLsbD i.val = read.complement.getLsbD i.val) ∧
     (c ≠ d → ∃ i : Fin 2, read.code.getLsbD i.val = read.codeComplement.getLsbD i.val))

/-- R31, R32, R59, R15, R58: what a claimant does with the slot it reads back. Its own ACCEPT, in ONLINE or DRAINING,
queues the service entry, with the reservation of a non-posted request and the hold of a notify write; CONFLICT
is recorded against the window; anything else changes nothing. A station that claims its own request acts first
as the claimant and then as the sender, on the one sample of the slot. A slot in which it has no part ends
without effect. -/
def Obligations.SlotEndReadsBackTheClaim : Prop :=
  (∀ (cells : SlotCells) (e : Exchange) (c : Claim) (s : State),
     s.tif.exchange = some e → e.begun = true → s.tif.corruptNext = false → e.mark = .claim c → e.sender = none →
     let ended : State := { s with tif := { s.tif with exchange := none } }
     (∀ dest, c.decision = .accept dest → cells.resolve = .accept s.ctl.number →
       s.ctl.station ∈ [StationState.online, .draining] →
       exec (.slotEnd cells) s = .next
         { ended with
           target :=
             { s.target with
               service :=
                 s.target.service ++
                   [{ request := c.frame, window := c.window, dest := dest,
                      reservation := if c.frame.body.tag.isSome = true then .live 512 else .none,
                      notifyHold := dest.isNotify }]
               nonPosted := s.target.nonPosted + (if c.frame.body.tag.isSome = true then 1 else 0) }
           mailbox :=
             { s.mailbox with reserved := s.mailbox.reserved + (if dest.isNotify = true then 1 else 0) } }) ∧
     (cells.resolve = .conflict →
       exec (.slotEnd cells) s = .next
         { ended with
           windows := s.windows.set c.window.val
             { s.windows[c.window] with
               conflictCount := BitVec.ofNat 8 (min 255 ((s.windows[c.window]).conflictCount.toNat + 1)) }
             c.window.isLt
           events := s.events.raiseTrunk .windowConflict }) ∧
     (cells.resolve ≠ .conflict →
       ¬ (cells.resolve = .accept s.ctl.number ∧ (∃ dest, c.decision = .accept dest)
         ∧ s.ctl.station ∈ [StationState.online, .draining]) →
       exec (.slotEnd cells) s = .next ended)) ∧
  (∀ (cells : SlotCells) (e : Exchange) (s : State), s.tif.exchange = some e → e.begun = true →
     s.tif.corruptNext = false →
     (∀ c o, e.mark = .claim c → e.sender = some o →
       ∃ t, exec (.slotEnd cells) { s with tif := { s.tif with exchange := some { e with sender := none } } }
           = .next t ∧
         exec (.slotEnd cells) s =
           exec (.slotEnd cells)
             { t with tif := { t.tif with exchange := some { e with mark := .none } } }) ∧
     ((∀ c, e.mark ≠ .claim c) → e.sender = none →
       exec (.slotEnd cells) s = .next { s with tif := { s.tif with exchange := none } }))

/-- R94 to R99: what the entry whose request frame was sent does with the outcome of its slot, when it is still
READY; an entry no longer READY ignores it. -/
def Obligations.SlotEndGivesTheRequestItsOutcome : Prop :=
  ∀ (cells : SlotCells) (e : Exchange) (g : Tag) (s : State),
    s.tif.exchange = some e → e.begun = true → s.tif.corruptNext = false → (∀ c, e.mark ≠ .claim c) →
    e.sender = some (.request g) →
    let ended : State := { s with tif := { s.tif with exchange := none } }
    let x := s.entry g
    ((s.entry g).state ≠ .ready → exec (.slotEnd cells) s = .next ended) ∧
    ((s.entry g).state = .ready →
      (∀ n, cells.resolve = .accept n →
        (x.op = .write →
          exec (.slotEnd cells) s = .next (ended.enterDone g { x with target := some n } .ok)) ∧
        (x.op ≠ .write →
          exec (.slotEnd cells) s = .next
            { ended.setEntry g { x with target := some n, state := .awaiting s.ctl.ct.toNat } with
              issue :=
                { s.issue with unsent := s.issue.unsent.filter (fun u => decide (u ≠ g)) } })) ∧
      (∀ n, cells.resolve = .busy n →
        (x.busyRetries < 8 →
          exec (.slotEnd cells) s = .next
            (ended.setEntry g
              { x with busyRetries := x.busyRetries + 1, state := .hold (4 * (x.busyRetries + 1)) })) ∧
        (8 ≤ x.busyRetries →
          exec (.slotEnd cells) s = .next
            (ended.enterDone g { x with target := some n } .busyExhausted))) ∧
      (∀ n, cells.resolve = .refuse n →
        exec (.slotEnd cells) s = .next (ended.enterDone g { x with target := some n } .denied)) ∧
      (cells.resolve = .corrupt →
        (x.corruptResends < 3 →
          exec (.slotEnd cells) s = .next
            (ended.setEntry g { x with corruptResends := x.corruptResends + 1 })) ∧
        (3 ≤ x.corruptResends →
          exec (.slotEnd cells) s = .next (ended.enterDone g x .corruptExhausted))) ∧
      (cells.resolve = .conflict →
        exec (.slotEnd cells) s = .next (ended.enterDone g x .conflict)) ∧
      (cells.resolve = .silent →
        exec (.slotEnd cells) s = .next (ended.enterDone g x .unclaimed)))

/-- R34, R66, R68: what the head of the response queue does with the outcome of its slot: delivered on the
destination's ACCEPT, kept for a resend on CORRUPT up to three times, dropped and counted otherwise; when an
expiry or a notice has removed the response, the outcome is ignored. -/
def Obligations.SlotEndGivesTheResponseItsOutcome : Prop :=
  ∀ (cells : SlotCells) (e : Exchange) (d : StationNo) (s : State),
    s.tif.exchange = some e → e.begun = true → s.tif.corruptNext = false → (∀ c, e.mark ≠ .claim c) →
    e.sender = some (.completion d) →
    let ended : State := { s with tif := { s.tif with exchange := none } }
    (s.target.responses = [] → exec (.slotEnd cells) s = .next ended) ∧
    (∀ r rest, s.target.responses = r :: rest →
      let removed : TargetEngine :=
        { s.target with responses := rest, nonPosted := s.target.nonPosted - 1 }
      let dropped : State :=
        { ended with
          target := removed
          events :=
            { s.events.raiseTrunk .responseDropped with
              counters :=
                { s.events.counters with
                  responsesDropped :=
                    BitVec.ofNat 16 (min 65535 (s.events.counters.responsesDropped.toNat + 1)) } } }
      (r.onTrunk = false → exec (.slotEnd cells) s = .next ended) ∧
      (r.onTrunk = true →
        (cells.resolve = .accept d → exec (.slotEnd cells) s = .next { ended with target := removed }) ∧
        (cells.resolve = .corrupt → r.resends < 3 →
          exec (.slotEnd cells) s = .next
            { ended with
              target :=
                { s.target with
                  responses := { r with resends := r.resends + 1, onTrunk := false } :: rest } }) ∧
        (cells.resolve = .corrupt → 3 ≤ r.resends → exec (.slotEnd cells) s = .next dropped) ∧
        (cells.resolve ≠ .accept d → cells.resolve ≠ .corrupt →
          exec (.slotEnd cells) s = .next dropped)))

/-! ### The initiator side -/

/-- R80 to R84: the head descriptor is issued into the lowest FREE entry when the station is ONLINE, its FENCE
and fetch conditions hold and an entry is FREE; otherwise it waits. -/
def Obligations.IssueTakesTheLowestFreeTag : Prop :=
  ∀ s : State,
    (s.issue.requestQueue = [] → exec .issue s = .next s) ∧
    (∀ d rest, s.issue.requestQueue = d :: rest →
      let fetches : Prop := d.op = .write ∨ d.op = .writeAcked
      let may : Prop := s.ctl.station = .online ∧ (∃ t, (s.entry t).state = .free)
        ∧ (d.fence = true →
            (∀ t, (s.entry t).state = .free ∨ ∃ k, (s.entry t).state = .stale k)
              ∧ s.completion.retire = [])
        ∧ (fetches → ∀ t, (s.entry t).state ≠ .fetching)
      (¬ may → exec .issue s = .next s) ∧
      (∀ t : Tag, may → (s.entry t).state = .free → (∀ u < t, (s.entry u).state ≠ .free) →
        exec .issue s = .next
          { s with
            ort :=
              { entries := s.ort.entries.set t.val
                  { state := if d.op = .write ∨ d.op = .writeAcked then .fetching else .ready
                    op := d.op, urgent := d.urgent, address := d.address, length := d.length
                    localAddress := d.localAddress, cookie := d.cookie, compareValue := d.compareValue
                    newValue := d.newValue, target := none, busyRetries := 0, corruptResends := 0
                    buffer := [], endingMark := false, result := none, oldValue := none
                    swapped := none } t.isLt
                issueOrder := s.ort.issueOrder ++ [t] }
            issue := { requestQueue := rest, unsent := s.issue.unsent ++ [t] } }))

/-- R97, R100, R109, R112: the expiries of the three timers of an entry. The holdoff makes it READY in its place;
the completion timer makes it DONE(TIMEOUT), at the tail of the retire list with its target kept; the quarantine
makes it FREE. Nothing else changes. An entry in another state has no such timer, and one with ticks remaining has
not expired (log entry 7). -/
def Obligations.EntryTimersExpire : Prop :=
  ∀ (g : Tag) (s : State),
    ((s.entry g).state = .hold 0 →
      exec (.holdoffExpiry g) s = .next
        { s with
          ort :=
            { s.ort with entries := s.ort.entries.set g.val { s.entry g with state := .ready } g.isLt } }) ∧
    ((s.entry g).state ≠ .hold 0 → exec (.holdoffExpiry g) s = .next s) ∧
    ((s.entry g).state = .awaiting 0 →
      exec (.completionTimeout g) s = .next
        { s with
          ort :=
            { s.ort with
              entries := s.ort.entries.set g.val
                { s.entry g with state := .done, result := some .timeout, endingMark := false } g.isLt }
          issue := { s.issue with unsent := s.issue.unsent.filter (fun u => decide (u ≠ g)) }
          completion := { s.completion with retire := s.completion.retire ++ [g] } }) ∧
    ((s.entry g).state ≠ .awaiting 0 → exec (.completionTimeout g) s = .next s) ∧
    ((s.entry g).state = .stale 0 →
      exec (.quarantineExpiry g) s = .next
        { s with
          ort :=
            { entries := s.ort.entries.set g.val OrtEntry.blank g.isLt
              issueOrder := s.ort.issueOrder.filter (fun u => decide (u ≠ g)) } } ∧
      OrtEntry.blank.state = .free) ∧
    ((s.entry g).state ≠ .stale 0 → exec (.quarantineExpiry g) s = .next s)

/-- R109, R111, R117, R120, R121, R144: the record of the first tag of the retire list is placed when the queue
has room, its entry becoming STALE after a TIMEOUT or TARGET_LOST on the trunk and FREE otherwise; COMPLETION
becomes pending at the threshold or for an urgent record. -/
def Obligations.PlacementBuildsTheRecord : Prop :=
  ∀ s : State,
    (s.completion.retire = [] ∨ 32 ≤ s.completion.queue.length → exec .placeRecord s = .next s) ∧
    (∀ g rest st, s.completion.retire = g :: rest → (s.entry g).result = some st →
      s.completion.queue.length < 32 →
      let x := s.entry g
      let quarantined : Prop := (st = .timeout ∨ st = .targetLost)
        ∧ s.ctl.station ∈ [StationState.online, .draining]
      let placed (ort : Ort) : State :=
        { s with
          ort := ort
          completion :=
            { queue := s.completion.queue ++
                [{ cookie := x.cookie, op := x.op, status := st, target := x.target,
                   oldValue := x.oldValue, swapped := x.swapped, busyRetries := x.busyRetries,
                   corruptResends := x.corruptResends, urgent := x.urgent }]
              retire := rest }
          events :=
            if s.events.threshold ≤ s.completion.queue.length + 1 ∨ x.urgent = true then
              s.events.pendCompletion
            else s.events }
      (quarantined →
        exec .placeRecord s = .next
          (placed
            { s.ort with
              entries := s.ort.entries.set g.val { x with state := .stale s.ctl.ct.toNat } g.isLt })) ∧
      (¬ quarantined →
        exec .placeRecord s = .next
          (placed
            { entries := s.ort.entries.set g.val OrtEntry.blank g.isLt
              issueOrder := s.ort.issueOrder.filter (fun u => decide (u ≠ g)) })))

/-! ### The memory port -/

/-- R131, R137, R60, R85, R107: with the port idle the arbiter grants the head of the service queue when it is for
a MEMORY window; with the service queue empty, the store of the earliest issue position, else the fetch; a port in use
grants nothing. While the head is a notify entry nothing is granted, and once it has been served what stands behind it
is the head, so that no store or fetch comes between two service entries. That a grant
and a notify service are commands of their own is the model's choice (log entry 12). -/
def Obligations.ArbiterGrantsInOrder : Prop :=
  ∀ s : State,
    let granted (requester : Requester) (kind : MemKind) (address length : Nat) : State :=
      { s with
        port := some
          { requester := requester, kind := kind, address := address, length := length, completed := 0
            gathered := [], wait := s.ctl.waitLimit.toNat, discard := false } }
    let stores (g : Tag) : Prop := (s.entry g).state = .storing ∧ (s.entry g).endingMark = false
    let fetches (g : Tag) : Prop := (s.entry g).state = .fetching ∧ (s.entry g).endingMark = false
    (s.port ≠ none → exec .memoryGrant s = .next s) ∧
    (s.port = none →
      (∀ e rest a, s.target.service = e :: rest → e.dest = .memory a →
        exec .memoryGrant s = .next
          (granted .target
            (match e.request.body with
              | .write data => .write data
              | .writeAcked _ data => .write data
              | .read _ _ => .read
              | .swap _ c n => .swap c n)
            a e.request.body.length)) ∧
      (∀ e rest offset, s.target.service = e :: rest → e.dest = .notify offset →
        exec .memoryGrant s = .next s ∧
        ∃ t, exec .notifyService s = .next t ∧ t.target.service = rest ∧ t.port = none ∧ t.ort = s.ort) ∧
      (s.target.service = [] →
        (∀ g before after, s.ort.issueOrder = before ++ g :: after → stores g → (∀ u ∈ before, ¬ stores u) →
          exec .memoryGrant s = .next
            (granted (.store g) (.write (s.entry g).buffer) (s.entry g).localAddress (s.entry g).length)) ∧
        ((∀ u ∈ s.ort.issueOrder, ¬ stores u) →
          (∀ g before after, s.ort.issueOrder = before ++ g :: after → fetches g →
              (∀ u ∈ before, ¬ fetches u) →
            exec .memoryGrant s = .next
              (granted (.fetch g) .read (s.entry g).localAddress (s.entry g).length)) ∧
          ((∀ u ∈ s.ort.issueOrder, ¬ fetches u) → exec .memoryGrant s = .next s))))

/-- R131, R132, R133, R136: the accesses of an operation cover its words in ascending order; a SWAP reads its two
words and then writes its new value to them. A word access that completes reads or writes the lanes of its word that
lie in the operation's range, and no other byte changes; the next access begins with the wait limit then held, or
the operation ends, completed. A SWAP whose second read does not equal its compare value ends without a write. What
the local controller has set through its own side is there first (log entry 5). An access outside local memory
stops with a fault (log entry 16). -/
def Obligations.WordAccessReadsOrWritesItsLanes : Prop :=
  ∀ (other : Option (BitVec 16)) (s : State),
    (s.port = none → exec (.wordAccessComplete other) s = .next s) ∧
    (∀ op, s.port = some op →
      let w := op.address / 2 + (match op.kind with
        | .swap _ _ => op.completed % 2
        | _ => op.completed)
      let writing : Prop :=
        match op.kind with
        | .read => False
        | .write _ => True
        | .swap _ _ => 2 ≤ op.completed
      let written (a : Nat) : Byte :=
        match op.kind with
        | .read => 0
        | .write data => data.getD (a - op.address) 0
        | .swap _ new => new.toList.getD (a - op.address) 0
      let lanes := [2 * w, 2 * w + 1].filter
        (fun a => decide (op.address ≤ a) && decide (a < op.address + op.length))
      let before (a : Nat) : Byte :=
        match other with
        | none => Memory.read s.localMem a
        | some v =>
          if a = 2 * w then v.extractLsb' 0 8
          else if a = 2 * w + 1 then v.extractLsb' 8 8
          else Memory.read s.localMem a
      (131072 ≤ w → exec (.wordAccessComplete other) s = .fault .noSuchLocalWord) ∧
      (w < 131072 → Memory.wf s.localMem = true → ∃ (m : List Host.Cell) (done : MemOp),
        (∀ a, (writing → a ∈ lanes → Memory.read m a = written a) ∧
          (¬ (writing ∧ a ∈ lanes) → Memory.read m a = before a)) ∧
        (∃ gathered, (writing → gathered = op.gathered) ∧
          (¬ writing → gathered = op.gathered ++ lanes.map before) ∧
          done = { op with completed := op.completed + 1, gathered := gathered }) ∧
        (let last : Prop :=
          match op.kind with
          | .swap c _ => 4 ≤ done.completed ∨ (done.completed = 2 ∧ done.gathered ≠ c.toList)
          | _ => (op.address + op.length - 1) / 2 - op.address / 2 + 1 ≤ done.completed
        (¬ last →
          exec (.wordAccessComplete other) s = .next
            { s with port := some { done with wait := s.ctl.waitLimit.toNat }, localMem := m }) ∧
        (last →
          exec (.wordAccessComplete other) s = .next
            ({ s with localMem := m }.endOperation done false)))))

/-- R60 to R65, R71, R85, R108, R114, R133, R134: an operation ends, completed or with MEMORY_FAULT (which the expiry
of the wait timer gives it); the port becomes idle, a fault is counted, and the requester acts on the result or
discards it. Of MREADY and the expiry of one access the first taken decides, and the other then does nothing: a wait
timer with time remaining has not expired (log entry 7). -/
def Obligations.OperationEndsAtItsRequester : Prop :=
  ∀ s : State,
    (s.port = none → exec .waitTimerExpiry s = .next s) ∧
    (∀ op, s.port = some op →
      (op.wait = 0 → exec .waitTimerExpiry s = .next (s.endOperation op true)) ∧
      (op.wait ≠ 0 → exec .waitTimerExpiry s = .next s)) ∧
    (∀ op (other : Option (BitVec 16)) (t : State), s.port = some op → op.wait = 0 → s.ctl.waitLimit ≠ 0 →
      (exec (.wordAccessComplete other) s = .next t → exec .waitTimerExpiry t = .next t) ∧
      (exec .waitTimerExpiry s = .next t → exec (.wordAccessComplete other) t = .next t)) ∧
    (∀ (op : MemOp) (fault : Bool),
      let idle : State :=
        { s with
          port := none
          events :=
            if fault then
              { s.events with
                counters :=
                  { s.events.counters with
                    memoryFaults := BitVec.ofNat 16 (min 65535 (s.events.counters.memoryFaults.toNat + 1)) } }
            else s.events }
      (op.requester = .target → op.discard = true → s.endOperation op fault = idle) ∧
      (∀ e rest, op.requester = .target → op.discard = false → s.target.service = e :: rest →
        let served : TargetEngine := { s.target with service := rest }
        let answered (status : CplStatus) (swapped : Bool) (data : List Byte) : TargetEngine :=
          match e.request.body.tag, e.reservation with
          | some t, .live k =>
            { served with
              responses := s.target.responses ++
                [{ destination := e.request.source, tag := t, status := status, swapped := swapped
                   data := data, lifetime := k, resends := 0, onTrunk := false }] }
          | _, _ => served
        s.endOperation op fault =
          (match e.request.body, fault with
          | .write _, true =>
            { idle with
              target := served
              events := idle.events.raiseFault .targetWriteFault
                ⟨.targetWriteFault, s.ctl.station, .window e.window⟩ }
          | .write _, false => { idle with target := served }
          | .writeAcked _ _, true => { idle with target := answered .memoryFault false [] }
          | .writeAcked _ _, false => { idle with target := answered .ok false [] }
          | .read _ _, true => { idle with target := answered .memoryFault false [] }
          | .read _ _, false => { idle with target := answered .ok false op.gathered }
          | .swap _ _ _, true => { idle with target := answered .memoryFault false [] }
          | .swap _ _ _, false =>
            { idle with target := answered .ok (decide (op.completed = 4)) op.gathered })) ∧
      (∀ g, op.requester = .fetch g → (s.entry g).state = .fetching →
        let x : OrtEntry := { s.entry g with buffer := op.gathered }
        ((s.entry g).endingMark = true → s.endOperation op fault = idle.enterDone g x .aborted) ∧
        ((s.entry g).endingMark = false →
          s.endOperation op fault =
            if fault then
              { idle.enterDone g x .localFault with
                events := idle.events.raiseFault .localMemoryFault
                  ⟨.localMemoryFault, s.ctl.station, .absent⟩ }
            else idle.setEntry g { x with state := .ready })) ∧
      (∀ g, op.requester = .store g → (s.entry g).state = .storing →
        ((s.entry g).endingMark = true → s.endOperation op fault = idle.enterDone g (s.entry g) .aborted) ∧
        ((s.entry g).endingMark = false →
          s.endOperation op fault =
            if fault then
              { idle.enterDone g (s.entry g) .localFault with
                events := idle.events.raiseFault .localMemoryFault
                  ⟨.localMemoryFault, s.ctl.station,
                    match (s.entry g).target with
                    | some n => .station n
                    | none => .absent⟩ }
            else idle.enterDone g (s.entry g) .ok)))

/-- R60, R64, R65, R125, R126, R127, R145: a notify entry at the head is served: its record joins the mailbox,
NOTIFY becomes pending, its hold is released, and a WRITE_ACKED with a live reservation gets its OK response. Any
other head, or none, is not served so. -/
def Obligations.NotifyEntryBecomesARecord : Prop :=
  ∀ s : State,
    ((s.target.service = [] ∨ ∃ e rest, s.target.service = e :: rest ∧ e.dest.isNotify = false) →
      exec .notifyService s = .next s) ∧
    (∀ e rest offset, s.target.service = e :: rest → e.dest = .notify offset → e.notifyHold = true →
      let served (acked : Bool) (data : List Byte) (responses : List ResponseEntry) : State :=
        { s with
          target := { s.target with service := rest, responses := responses }
          mailbox :=
            { records := s.mailbox.records ++
                [{ source := e.request.source, window := e.window, wordOffset := offset, value := data
                   acked := acked }]
              reserved := s.mailbox.reserved - 1 }
          events := s.events.pendNotify }
      (∀ data, e.request.body = .write data →
        exec .notifyService s = .next (served false data s.target.responses)) ∧
      (∀ t data, e.request.body = .writeAcked t data →
        (∀ k, e.reservation = .live k →
          exec .notifyService s = .next
            (served true data (s.target.responses ++
              [{ destination := e.request.source, tag := t, status := .ok, swapped := false, data := []
                 lifetime := k, resends := 0, onTrunk := false }]))) ∧
        (e.reservation.isLive = false →
          exec .notifyService s = .next (served true data s.target.responses))))

/-! ### The Event Unit and the ORT, as the statements above use them -/

/-- R109, R143, R149, R151, R152: what entering DONE does, and what raising a cause and making a category pending
do: the flag and the category are set, in PULSE mode an unmasked category that was not pending gains a pulse, a
FAULT cause writes the last-fault record, and a counter counts by 1 up to 65535. -/
def Obligations.DoneCausesAndCounters : Prop :=
  (∀ (s : State) (g : Tag) (e : OrtEntry) (st : Status),
    s.enterDone g e st =
      { s with
        ort :=
          { s.ort with
            entries := s.ort.entries.set g.val
              { e with state := .done, result := some st, endingMark := false } g.isLt }
        issue := { s.issue with unsent := s.issue.unsent.filter (fun u => decide (u ≠ g)) }
        completion := { s.completion with retire := s.completion.retire ++ [g] } }) ∧
  (∀ u : EventUnit,
    let gains (masked pending : Bool) : Bool :=
      u.pulsing || (decide (u.lineMode = .pulse) && !masked && !pending)
    u.pendCompletion =
      { u with
        pending := { u.pending with completion := true }
        pulsing := gains u.mask.completion u.pending.completion } ∧
    u.pendNotify =
      { u with
        pending := { u.pending with notify := true }, pulsing := gains u.mask.notify u.pending.notify } ∧
    (∀ c : TrunkCause, u.raiseTrunk c =
      { u with
        pending := { u.pending with trunk := true }
        pulsing := gains u.mask.trunk u.pending.trunk
        trunkCauses :=
          { presenceChange := u.trunkCauses.presenceChange || decide (c = .presenceChange)
            windowConflict := u.trunkCauses.windowConflict || decide (c = .windowConflict)
            syncLost := u.trunkCauses.syncLost || decide (c = .syncLost)
            responseDropped := u.trunkCauses.responseDropped || decide (c = .responseDropped) } }) ∧
    (∀ (c : FaultCause) (r : FaultRecord), u.raiseFault c r =
      { u with
        pending := { u.pending with fault := true }
        pulsing := gains u.mask.fault u.pending.fault
        faultCauses :=
          { detached := u.faultCauses.detached || decide (c = .detached)
            targetWriteFault := u.faultCauses.targetWriteFault || decide (c = .targetWriteFault)
            localMemoryFault := u.faultCauses.localMemoryFault || decide (c = .localMemoryFault)
            loadFault := u.faultCauses.loadFault || decide (c = .loadFault)
            joinInvalid := u.faultCauses.joinInvalid || decide (c = .joinInvalid)
            joinDuplicate := u.faultCauses.joinDuplicate || decide (c = .joinDuplicate) }
        lastFault := some r }) ∧
    (∀ k : Nat, 0 < k → u.responsesDropped k =
      { u.raiseTrunk .responseDropped with
        counters :=
          { u.counters with
            responsesDropped := BitVec.ofNat 16 (min 65535 (u.counters.responsesDropped.toNat + k)) } }) ∧
    u.responsesDropped 0 = u ∧
    u.countLate =
      { u with
        counters :=
          { u.counters with
            lateCompletions := BitVec.ofNat 16 (min 65535 (u.counters.lateCompletions.toNat + 1)) } } ∧
    u.countMalformed =
      { u with
        counters :=
          { u.counters with
            malformedCompletions :=
              BitVec.ofNat 16 (min 65535 (u.counters.malformedCompletions.toNat + 1)) } } ∧
    u.countRefusal =
      { u with
        counters :=
          { u.counters with
            refusalsGiven := BitVec.ofNat 16 (min 65535 (u.counters.refusalsGiven.toNat + 1)) } } ∧
    u.countBusy =
      { u with
        counters :=
          { u.counters with busyGiven := BitVec.ofNat 16 (min 65535 (u.counters.busyGiven.toNat + 1)) } })

/-! ### Encodings -/

/-- R18, R23, R24, R184: every well-formed frame is read back from the bytes it is sent as, and its check is good,
and from the levels on the line, behind any idle time and whatever follows; a frame with a bad check, or with no
whole number of bytes, is classed corrupt with a slot, and one that ends in the abandon sequence or an idle line
corrupt with none. A byte goes out most significant bit first. A cell of another sender never looks as it was driven
under the abandon sequence, and a station that sees no mismatch has sent its frame. By the model's choice, log entry 14,
four recessive cells are an idle line for a frame that was cut short without the abandon sequence too. -/
def Obligations.FrameRoundTrip : Prop :=
  (∀ f : Frame, f.wf = true →
    decodeFrame (encodeFrame f) = some f ∧ crc16 (encodeFrame f) = 0 ∧
    receptionCommand (.delimited (encodeFrame f)) =
      (match f with
        | .request r => .requestFrameReceived r
        | .completion c => .completionFrameReceived c
        | .beacon n => .beaconReceived n)) ∧
  (∀ bs : List Byte, crc16 bs ≠ 0 → receptionCommand (.delimited bs) = .corruptReception true) ∧
  receptionCommand .broken = .corruptReception true ∧ receptionCommand .cut = .corruptReception false ∧
  (∀ (n : Nat) (bits : List Bool) (rest : List LineCell),
    let received (ending : List LineCell) : List Instr :=
      lineCommands (List.replicate n ⟨.recessive, .recessive⟩ ++ List.replicate 2 ⟨.dominant, .dominant⟩
        ++ bits.map (fun b => if b then ⟨.recessive, .dominant⟩ else ⟨.dominant, .recessive⟩)
        ++ ending ++ rest)
    let delimiter : List LineCell :=
      [⟨.recessive, .recessive⟩, ⟨.recessive, .recessive⟩, ⟨.dominant, .dominant⟩]
    (∀ bs : List Byte, bits = bs.flatMap (fun b => [7, 6, 5, 4, 3, 2, 1, 0].map (fun i => b.getLsbD i)) →
      received delimiter = [.startDelimiterSeen, receptionCommand (.delimited bs)] ∧
      lineOf bs = List.replicate 2 ⟨.dominant, .dominant⟩
        ++ bits.map (fun b => if b then ⟨.recessive, .dominant⟩ else ⟨.dominant, .recessive⟩) ++ delimiter) ∧
    (bits.length % 8 ≠ 0 → received delimiter = [.startDelimiterSeen, .corruptReception true]) ∧
    received (List.replicate 16 ⟨.dominant, .dominant⟩) = [.startDelimiterSeen, .corruptReception false] ∧
    received (List.replicate 4 ⟨.recessive, .recessive⟩) = [.startDelimiterSeen, .corruptReception false]) ∧
  (∀ (b : Bool) (own others : List LineCell),
    (LineCell.ofBit b).combine ⟨.dominant, .dominant⟩ ≠ LineCell.ofBit b ∧
    ownCommand own own = .ownFrameSent ∧
    (own.length ≤ others.length →
      (ownCommand own others = .ownFrameSent ↔ List.zipWith LineCell.combine own others = own)))

/-! ### The laws of the station -/

/-- R52, R53, R70, R126, R127: the laws of the target side are kept by every step. -/
def Obligations.TargetLawKept : Prop :=
  ∀ s t : State, TargetLaw s → step s = .next t → TargetLaw t

/-- R83, R87, R90, R92, R109, R113, R114, R120: the laws of the initiator side are kept by every step. -/
def Obligations.OrtLawKept : Prop :=
  ∀ s t : State, OrtLaw s → step s = .next t → OrtLaw t

/-- R16, R36, R37, R44, R46, R77, R119, R142, R149, R169, R170, R172: the laws of the other blocks are kept by every
step, and local memory keeps its canonical form. -/
def Obligations.StationLawKept : Prop :=
  ∀ s t : State, StationLaw s → step s = .next t → StationLaw t

/-- The laws hold right after reset. -/
def Obligations.LawsHoldAtReset : Prop := Lawful State.reset

/-- Chapter 11, section 11.1: the station state changes by the transitions of the table and by no other. -/
def Obligations.StationStateDoors : Prop :=
  ∀ (i : Instr) (s t : State), exec i s = .next t → t.ctl.station ≠ s.ctl.station →
    Door s.ctl.station i t.ctl.station

/-- R28, R22, R30, the law of silence: outside ONLINE and DRAINING no command starts a frame or begins to drive a
mark; a frame or a mark already under way runs on. -/
def Obligations.LawOfSilence : Prop :=
  ∀ (i : Instr) (s t : State), s.ctl.station ∈ [StationState.loading, .config, .joining, .detached] →
    exec i s = .next t →
    (t.tif.tx = s.tif.tx ∨ t.tif.tx = none) ∧ (t.drives = s.drives ∨ t.drives = ⟨false, 15, 15, 3, 3⟩)

/-- R31, the claim law: a request joins the service queue, at its tail, only when the slot reads the own number
with ACCEPT and no CORRUPT mark, after a claim with ACCEPT; otherwise requests only leave, from the head. -/
def Obligations.ClaimLaw : Prop :=
  ∀ (i : Instr) (s t : State), exec i s = .next t →
    (∃ k, t.target.service.map (fun e => e.request) = (s.target.service.map (fun e => e.request)).drop k) ∨
    (∃ cells e c dest, i = .slotEnd cells ∧ cells.corrupt = false ∧ cells.resolve = .accept s.ctl.number ∧
      s.tif.exchange = some e ∧ e.begun = true ∧ e.mark = .claim c ∧ c.decision = .accept dest ∧
      t.target.service.map (fun x => x.request) = s.target.service.map (fun x => x.request) ++ [c.frame])

/-- R89, the send-order law, is kept by every step: while the request frame of an entry is transmitted, no entry
issued before it is FETCHING, READY or HOLD. -/
def Obligations.SendOrderLaw : Prop :=
  ∀ s t : State, OrtLaw s → StationLaw s → SendOrder s → step s = .next t → SendOrder t
end

