-- ==== Sys2Proof/Laws/Conditions.lean ====
section
/-! SUPPORT. The conditions that the commands test, as the manual words them: each Bool of the model is true
exactly when its condition holds. -/

namespace Sys2Proof.Machine

/-- The list of the tags holds every tag. -/
theorem mem_allTags (t : Tag) : t ∈ allTags := by revert t; decide

/-- The list of the window indices holds every index. -/
theorem mem_allWindows (w : WindowIdx) : w ∈ allWindows := by revert w; decide

/-- An entry is STALE when its state is, with any ticks remaining. -/
theorem OrtEntry.isStale_iff (e : OrtEntry) : e.isStale = true ↔ ∃ k, e.state = .stale k := by
  unfold OrtEntry.isStale
  split <;> simp_all

/-- R106: an entry awaits a station when it is AWAITING with that target. -/
theorem OrtEntry.awaits_iff (e : OrtEntry) (st : StationNo) :
    e.awaits st = true ↔ (∃ k, e.state = .awaiting k) ∧ e.target = some st := by
  unfold OrtEntry.awaits
  split <;> simp_all

/-- R116: the ORT is at rest when every entry is FREE or STALE. -/
theorem State.ortAtRest_iff (s : State) :
    s.ortAtRest = true ↔ ∀ t, (s.entry t).state = .free ∨ ∃ k, (s.entry t).state = .stale k := by
  simp [State.ortAtRest, OrtEntry.isStale_iff, mem_allTags]

theorem State.ortFree_iff (s : State) : s.ortFree = true ↔ ∀ t, (s.entry t).state = .free := by
  simp [State.ortFree, mem_allTags]

theorem State.fetching_iff (s : State) : s.fetching = true ↔ ∃ t, (s.entry t).state = .fetching := by
  simp [State.fetching, mem_allTags]

/-- R82: a fence is met when every entry is FREE or STALE and the retire list is empty. -/
theorem State.fenceMet_iff (s : State) :
    s.fenceMet = true ↔
      (∀ t, (s.entry t).state = .free ∨ ∃ k, (s.entry t).state = .stale k) ∧ s.completion.retire = [] := by
  simp [State.fenceMet, State.ortAtRest_iff]

/-- R81: the tag chosen is FREE, and no lower tag is. -/
theorem State.lowestFree_iff (s : State) (t : Tag) :
    s.lowestFree = some t ↔ (s.entry t).state = .free ∧ ∀ u < t, (s.entry u).state ≠ .free := by
  have hl : allTags = List.finRange 16 := by decide
  simp only [State.lowestFree, hl, List.find?_eq_some_iff_getElem, decide_eq_true_eq, Bool.not_eq_true',
    decide_eq_false_iff_not, List.getElem_finRange, List.length_finRange]
  constructor
  · rintro ⟨hf, i, hi, ht, hlow⟩
    refine ⟨hf, fun u hu => ?_⟩
    have hu' : u.val < i := by
      have h1 : i = t.val := congrArg Fin.val ht
      rw [h1]
      exact hu
    exact hlow u.val hu'
  · rintro ⟨hf, hlow⟩
    exact ⟨hf, t.val, t.isLt, rfl, fun j hj => hlow ⟨j, by omega⟩ (by simpa [Fin.lt_def] using hj)⟩

/-- R81: no entry is FREE when no tag is chosen. -/
theorem State.lowestFree_none_iff (s : State) : s.lowestFree = none ↔ ∀ t, (s.entry t).state ≠ .free := by
  simp [State.lowestFree, mem_allTags]

/-- R166: JOIN is answered ORT_BUSY exactly when work of the last stay still runs. -/
theorem State.joinBusy_iff (s : State) :
    s.joinBusy = true ↔
      (∃ t, (s.entry t).state ≠ .free) ∨ s.completion.retire ≠ [] ∨ s.port ≠ none ∨ s.tifQuiet = false := by
  rw [← not_iff_not]
  simp [State.joinBusy, State.ortFree_iff, and_assoc]

/-- R180: the conditions of the end of draining. -/
theorem State.drained_iff (s : State) :
    s.drained = true ↔
      (∀ t, (s.entry t).state = .free ∨ ∃ k, (s.entry t).state = .stale k) ∧ s.completion.retire = []
        ∧ s.target.service = [] ∧ s.target.responses = [] ∧ s.port = none ∧ s.tifQuiet = true := by
  simp only [State.drained, State.targetAtRest, State.targetInFlight, Bool.and_eq_true, List.isEmpty_iff,
    State.ortAtRest_iff, decide_eq_true_eq]
  constructor
  · rintro ⟨⟨⟨⟨h1, h2⟩, ⟨h3, h4⟩, -⟩, h5⟩, h6⟩
    exact ⟨h1, h2, h3, h4, h5, h6⟩
  · rintro ⟨h1, h2, h3, h4, h5, h6⟩
    exact ⟨⟨⟨⟨h1, h2⟩, ⟨h3, h4⟩, by simp [h5]⟩, h5⟩, h6⟩

/-- R60: a notify entry is still to be served. -/
theorem State.notifyAtHead_iff (s : State) :
    s.notifyAtHead = true ↔
      ∃ e rest offset, s.target.service = e :: rest ∧ e.dest = .notify offset := by
  unfold State.notifyAtHead
  cases s.target.service with
  | nil => simp
  | cons e rest => cases h : e.dest <;> simp [h]

/-- R137: everything a grant can do: nothing, or put the arbiter's choice on the idle port, with no notify entry
still to be served. -/
theorem execMemoryGrant_cases (s t : State) (h : execMemoryGrant s = .next t) :
    t = s ∨ ∃ op, s.port = none ∧ s.notifyAtHead = false ∧ s.arbiterChoice = some op
      ∧ t = s.beginAccess op := by
  unfold execMemoryGrant at h
  injection h with h
  subst h
  split
  · exact .inl rfl
  · split
    · exact .inl rfl
    · split
      · exact .inl rfl
      · exact .inr ⟨_, ‹_›, by simpa using ‹¬ s.notifyAtHead = true›, ‹_›, rfl⟩

/-- R37: when a round can open. -/
theorem Tif.roundDue_iff (t : Tif) :
    t.roundDue = true ↔ t.incoming = false ∧ t.exchange = none ∧ (t.trunk = .busy ∨ t.trunk = .idle 48) := by
  have slots : roundSlots = 48 := rfl
  cases h : t.trunk <;> simp [Tif.roundDue, h, and_assoc, slots]

/-- R37: everything ROUND_OPEN can do. -/
theorem execRoundOpen_cases (s t : State) (h : execRoundOpen s = .next t) :
    t = s ∨ (s.countsSlots = true ∧ s.tif.roundDue = true
      ∧ t = { s with tif := { s.tif with trunk := .idle 0 } }) := by
  unfold execRoundOpen at h
  injection h with h
  subst h
  split
  · rename_i h
    exact .inr ⟨(Bool.and_eq_true_iff.mp h).1, (Bool.and_eq_true_iff.mp h).2, rfl⟩
  · exact .inl rfl

/-- R37, R39: everything CONTENTION_SLOT can do: nothing, or begin the slot that is the next of the round. -/
theorem execContentionSlot_cases (slot : Fin 48) (s t : State) (h : execContentionSlot slot s = .next t) :
    t = s ∨ (s.tif.trunk = .idle slot.val ∧ s.countsSlots = true ∧ t = s.beginSlot slot) := by
  unfold execContentionSlot at h
  injection h with h
  subst h
  split
  · exact .inl rfl
  · split
    · rename_i ht h
      exact .inr ⟨h.1 ▸ ht, h.2, rfl⟩
    · exact .inl rfl

/-- R39: a slot that begins ends the round, or is counted. -/
theorem State.beginSlot_trunk (s : State) (slot : Fin 48) :
    (s.beginSlot slot).tif.trunk = .busy ∨ (s.beginSlot slot).tif.trunk = .idle (slot.val + 1) := by
  unfold State.beginSlot
  split
  · exact .inl rfl
  · exact .inr rfl

/-- Everything that can pass with no command waiting: a tick, or the rest of a wait limit (R133). -/
theorem State.idle_cases (s : State) :
    (s.idle = s.tick ∧ ∀ op, s.port = some op → op.wait = 0)
      ∨ ∃ op, s.port = some op ∧ op.wait ≠ 0 ∧ s.idle = { s with port := some { op with wait := 0 } } := by
  unfold State.idle
  split
  · rename_i op h
    split
    · rename_i hw
      exact .inl ⟨rfl, fun o ho => by rw [h] at ho; cases ho; exact hw⟩
    · exact .inr ⟨op, h, ‹_›, rfl⟩
  · rename_i h
    exact .inl ⟨rfl, fun o ho => by rw [h] at ho; cases ho⟩

/-- R5: an address matches the window of the lowest index that is enabled and holds it. -/
theorem lookup_cases (ws : Vector Window 8) (f : ReqFrame) :
    (lookup ws f = .noMatch ∧ matchWindow ws f.address.toNat = none) ∨
    ∃ w, matchWindow ws f.address.toNat = some w ∧
      ((∃ r, (ws[w]).config.firstFailure f.source f.body.op f.address.toNat f.body.length = some r
          ∧ lookup ws f = .refuse w r)
        ∨ ((ws[w]).config.firstFailure f.source f.body.op f.address.toNat f.body.length = none
          ∧ lookup ws f = .permitted w ((ws[w]).config.dest f.address.toNat))) := by
  unfold lookup
  split <;> rename_i h
  · exact .inl ⟨rfl, h⟩
  · refine .inr ⟨_, h, ?_⟩
    split <;> rename_i h2
    · exact .inl ⟨_, h2, rfl⟩
    · exact .inr ⟨h2, rfl⟩

end Sys2Proof.Machine
end

