-- ==== Sys2Proof/Laws/HostPort.lean ====
section
/-! SUPPORT. The host port: when a command is taken, what permitting it does, and the operand bytes of
each command read back. -/

namespace Sys2Proof.Machine

/-! ### Taking a command -/

/-- A command whose operand bytes are whole is taken by a station that is open for it. -/
theorem State.takes_of_openFor {s : State} {c : HostCode} {ops : List Byte} (h : s.openFor c ops)
    (hw : c.operandsWhole ops = true) : s.takes c ops = true := by
  rcases h with ⟨h1, h2 | ⟨got, h2, h3, h4⟩⟩
  · simp [State.takes, h1, h2, hw]
  · simp [State.takes, h1, h2, hw, h3, h4]

/-- A station that takes the command is open for it. -/
theorem State.openFor_of_takes {s : State} {c : HostCode} {ops : List Byte} (h : s.takes c ops = true) :
    s.openFor c ops := by
  simp only [State.takes, Bool.and_eq_true, Bool.not_eq_true'] at h
  obtain ⟨⟨h1, -⟩, h2⟩ := h
  refine ⟨h1, ?_⟩
  split at h2 <;> simp_all

/-- R158: the two columns of the table, permitted and refused, are each other's complement. -/
theorem HostCode.permitted_eq (c : HostCode) (st : StationState) :
    c.permitted st = decide (st ∉ c.refusedIn) := by
  cases c <;> cases st <;> decide

/-- A permitted command is carried out. -/
theorem State.ifPermitted_of_permitted {s : State} {c : HostCode} {r : List Byte} {f : State → State}
    (h : c.permitted s.ctl.station = true) : s.ifPermitted c r f = f s := by
  simp [State.ifPermitted, h]

/-- A command not permitted is answered WRONG_STATE. -/
theorem State.ifPermitted_of_refused {s : State} {c : HostCode} {r : List Byte} {f : State → State}
    (h : c.permitted s.ctl.station = false) : s.ifPermitted c r f = s.answer c .wrongState r := by
  simp [State.ifPermitted, h]

/-! ### The lengths of operands -/

theorem RawDescriptor.bytes_length (d : RawDescriptor) : d.bytes.length = 19 := by
  simp [RawDescriptor.bytes, bytes4, bytes3, bytes2]

theorem RawWindow.bytes_length (w : RawWindow) : w.bytes.length = 13 := by
  simp [RawWindow.bytes, bytes4, bytes3, bytes2]

/-- The operand bytes of a well-formed CONFIG_READ are whole. -/
theorem ConfigItem.bytes_whole (x : ConfigItem) (h : x.wf = true) :
    HostCode.configRead.operandsWhole x.bytes = true := by
  cases x
  case noItem sel =>
    simp [ConfigItem.wf, namesItem] at h
    simp [HostCode.operandsWhole, HostCode.operandCount, ConfigItem.bytes, h]
  all_goals simp [HostCode.operandsWhole, HostCode.operandCount, ConfigItem.bytes]

/-- The operand bytes of a well-formed CONFIG_WRITE are whole. -/
theorem ConfigValue.bytes_whole (x : ConfigValue) (h : x.wf = true) :
    HostCode.configWrite.operandsWhole x.bytes = true := by
  cases x
  case noItem sel =>
    simp [ConfigValue.wf, namesItem] at h
    simp [HostCode.operandsWhole, HostCode.operandCount, ConfigValue.bytes, h]
  all_goals
    simp [HostCode.operandsWhole, HostCode.operandCount, ConfigValue.bytes, bytes2, RawWindow.bytes_length]

/-- The operand bytes of every well-formed host port row are whole. -/
theorem hostRow_operandsWhole {i : Instr} {c : HostCode} {ops refused : List Byte}
    (h : hostRow i = some (c, ops, refused)) (hw : i.wf = true) : c.operandsWhole ops = true := by
  cases i
  case submit d =>
    simp only [hostRow, Option.some.injEq, Prod.mk.injEq] at h
    obtain ⟨rfl, rfl, -⟩ := h
    simp [HostCode.operandsWhole, RawDescriptor.bytes_length, HostCode.operandCount]
  case configRead x =>
    simp only [hostRow, Option.some.injEq, Prod.mk.injEq] at h
    obtain ⟨rfl, rfl, -⟩ := h
    exact ConfigItem.bytes_whole x hw
  case configWrite x =>
    simp only [hostRow, Option.some.injEq, Prod.mk.injEq] at h
    obtain ⟨rfl, rfl, -⟩ := h
    exact ConfigValue.bytes_whole x hw
  all_goals simp only [hostRow, Option.some.injEq, Prod.mk.injEq, reduceCtorEq] at h
  all_goals obtain ⟨rfl, rfl, -⟩ := h; rfl

/-! ### Codes -/

/-- Every command is read back from its code. -/
theorem HostCode.ofByte_byte (c : HostCode) : HostCode.ofByte c.byte = some c := by
  cases c <;> decide

/-- A byte that names a command is that command's code. -/
theorem HostCode.byte_of_ofByte {b : Byte} {c : HostCode} (h : HostCode.ofByte b = some c) : c.byte = b := by
  have := List.find?_some h
  simpa using this

end Sys2Proof.Machine
end

