-- ==== Sys2Proof/Laws/Line.lean ====
section
/-! SUPPORT. What the receiver reads from the line code (R184): idle cells, data cells, delimiters; and the bytes
of a run of bits. -/

namespace Sys2Proof.Machine

/-- R184: the bit of a data cell is the bit it was sent for. -/
@[simp] theorem LineCell.bit_ofBit (b : Bool) : (LineCell.ofBit b).bit = some b := by cases b <;> rfl

/-- R184: no data cell begins a delimiter, an abandon sequence or an idle line, so the receiver takes it. -/
theorem readCells_ofBit (taken : List LineCell) (b : Bool) (rest : List LineCell) :
    readCells taken (LineCell.ofBit b :: rest) = readCells (taken ++ [LineCell.ofBit b]) rest := by
  cases b <;>
    simp [readCells, endDelimiter, abandonSequence, idleLine, LineCell.ofBit, LineCell.dominant,
      LineCell.recessive, List.replicate_succ]

/-- The receiver takes a run of data cells. -/
theorem readCells_bits (taken : List LineCell) (bits : List Bool) (rest : List LineCell) :
    readCells taken (bits.map LineCell.ofBit ++ rest) = readCells (taken ++ bits.map LineCell.ofBit) rest := by
  induction bits generalizing taken with
  | nil => simp
  | cons b bs ih => simp [readCells_ofBit, ih]

/-- R23: the receiver passes the idle cells before a frame. -/
theorem readLine_idle (n : Nat) (line : List LineCell) :
    readLine (List.replicate n .recessive ++ line) = readLine line := by
  induction n with
  | zero => rfl
  | succ n ih => simpa [List.replicate_succ, readLine] using ih

/-- R23: from a start delimiter on the receiver takes the cells. -/
theorem readLine_start (line : List LineCell) : readLine (startDelimiter ++ line) = readCells [] line := by
  simp [readLine, startDelimiter, LineCell.dominant, LineCell.recessive]

/-- R184: the end delimiter ends the frame. -/
theorem readCells_end (taken rest : List LineCell) :
    readCells taken (endDelimiter ++ rest) = some (frameEndOf taken) := by
  simp [endDelimiter, readCells]

/-- R23: the abandon sequence cuts the frame. -/
theorem readCells_abandon (taken rest : List LineCell) :
    readCells taken (abandonSequence ++ rest) = some .cut := by
  simp [abandonSequence, readCells, endDelimiter, List.replicate_succ, LineCell.dominant, LineCell.recessive]

/-- R23: an idle line cuts the frame. -/
theorem readCells_idle (taken rest : List LineCell) : readCells taken (idleLine ++ rest) = some .cut := by
  simp [abandonSequence, idleLine, readCells, endDelimiter, List.replicate_succ, LineCell.dominant,
    LineCell.recessive]

/-- R184: the bytes of the bits of a run of bytes are those bytes. -/
theorem packBytes_byteBits (bs : List Byte) : packBytes (bs.flatMap byteBits) = bs := by
  induction bs with
  | nil => rfl
  | cons b bs ih =>
    have h : BitVec.ofBoolListBE [b.getLsbD 7, b.getLsbD 6, b.getLsbD 5, b.getLsbD 4, b.getLsbD 3, b.getLsbD 2,
        b.getLsbD 1, b.getLsbD 0] = b := by
      revert b; decide
    simp only [List.flatMap_cons, byteBits, List.map_cons, List.map_nil, List.cons_append, List.nil_append,
      packBytes, h]
    exact congrArg _ ih

end Sys2Proof.Machine
end

