-- ==== Sys2Proof/Laws/Memory.lean ====
section
/-! SUPPORT. Local memory: a read after a write, what a list of writes leaves alone, and that every memory
operation keeps the canonical form. -/

namespace Sys2Proof.Machine

/-- Below the first address that a canonical list may hold, every address is unlisted. -/
theorem Memory.read_below {lo : Nat} {m : List Host.Cell} (h : Memory.wfFrom lo m = true) {a : Nat}
    (ha : a < lo) : Memory.read m a = Memory.unlisted a := by
  induction m generalizing lo with
  | nil => rfl
  | cons c m ih =>
    obtain ⟨k, v⟩ := c
    simp [Memory.wfFrom] at h
    simp only [Memory.read]
    rw [if_neg (by omega), ih h.2 (by omega)]

/-- A read after a write, on a list canonical from `lo` upward. -/
theorem Memory.read_write_from {lo : Nat} {m : List Host.Cell} (hw : Memory.wfFrom lo m = true) (a : Nat)
    (b : Byte) (x : Nat) :
    Memory.read (Memory.write m a b) x = if x = a then b else Memory.read m x := by
  induction m generalizing lo with
  | nil => simp only [Memory.write]; split <;> simp_all [Memory.read, Memory.unlisted]
  | cons c m ih =>
    obtain ⟨k, v⟩ := c
    simp [Memory.wfFrom] at hw
    simp only [Memory.write]
    split
    · split
      · rename_i h1 h2; split
        · subst_vars; simp only [Memory.read]; rw [if_neg (by omega), Memory.read_below hw.2 (by omega)]
        · rfl
      · simp only [Memory.read]
    · split
      · split
        · simp only [Memory.read]; split
          · subst_vars; rw [Memory.read_below hw.2 (by omega)]
          · subst_vars; simp_all
        · subst_vars; simp only [Memory.read]; split <;> simp_all
      · simp only [Memory.read]; rw [ih hw.2]; split <;> split <;> simp_all

/-- A write gives its byte at its address and leaves every other address alone. -/
theorem Memory.read_write {m : List Host.Cell} (hw : Memory.wf m = true) (a : Nat) (b : Byte) (x : Nat) :
    Memory.read (Memory.write m a b) x = if x = a then b else Memory.read m x :=
  Memory.read_write_from hw a b x

/-- A canonical list from `lo` upward is one from any lower address upward. -/
theorem Memory.wfFrom_mono {lo lo' : Nat} {m : List Host.Cell} (h : Memory.wfFrom lo m = true)
    (hl : lo' ≤ lo) : Memory.wfFrom lo' m = true := by
  cases m with
  | nil => rfl
  | cons c m =>
    obtain ⟨k, v⟩ := c
    simp [Memory.wfFrom] at h ⊢
    exact ⟨⟨⟨by omega, h.1.1.2⟩, h.1.2⟩, h.2⟩

/-- A write inside local memory keeps the canonical form from `lo` upward. -/
theorem Memory.wfFrom_write {lo : Nat} {m : List Host.Cell} (hw : Memory.wfFrom lo m = true) {a : Nat}
    (b : Byte) (hl : lo ≤ a) (ha : a < localMemorySize) : Memory.wfFrom lo (Memory.write m a b) = true := by
  induction m generalizing lo with
  | nil => simp only [Memory.write]; split <;> simp_all [Memory.wfFrom]
  | cons c m ih =>
    obtain ⟨k, v⟩ := c
    have hw' := hw
    simp [Memory.wfFrom] at hw
    simp only [Memory.write]
    split
    · split
      · exact hw'
      · simp [Memory.wfFrom, *]
    · split
      · split
        · exact Memory.wfFrom_mono hw.2 (by omega)
        · subst_vars; simp [Memory.wfFrom, *]
      · simp [Memory.wfFrom, *]; exact ih hw.2 (by omega)

/-- A write inside local memory keeps the canonical form. -/
theorem Memory.wf_write {m : List Host.Cell} (hw : Memory.wf m = true) {a : Nat} (b : Byte)
    (ha : a < localMemorySize) : Memory.wf (Memory.write m a b) = true :=
  Memory.wfFrom_write hw b (Nat.zero_le a) ha

/-- A list of writes inside local memory keeps the canonical form. -/
theorem Memory.wf_writeAt {m : List Host.Cell} (hw : Memory.wf m = true) {cells : List (Nat × Byte)}
    (hc : ∀ c ∈ cells, c.1 < localMemorySize) : Memory.wf (Memory.writeAt m cells) = true := by
  induction cells generalizing m with
  | nil => exact hw
  | cons c cells ih =>
    exact ih (Memory.wf_write hw c.2 (hc c (by simp))) (fun d hd => hc d (by simp [hd]))

/-- The lanes of an access lie in its word. -/
theorem MemOp.mem_lanes {op : MemOp} {a : Nat} (h : a ∈ op.lanes) :
    (a = 2 * op.word ∨ a = 2 * op.word + 1) ∧ op.address ≤ a ∧ a < op.address + op.length := by
  simp [MemOp.lanes, laneAddrs, wordAddrs] at h
  exact ⟨h.1, h.2.1, h.2.2⟩

/-- The cells that an access writes lie at its lanes. -/
theorem MemOp.mem_cells {op : MemOp} {c : Nat × Byte} (h : c ∈ op.cells) :
    c.1 ∈ op.lanes ∧ c.2 = op.data.getD (c.1 - op.address) 0 := by
  simp only [MemOp.cells, List.mem_map] at h
  obtain ⟨a, ha, rfl⟩ := h
  exact ⟨ha, rfl⟩

/-- Writes of one byte each at distinct addresses: the address reads its byte, every other as before. -/
theorem Memory.read_writeAt {m : List Host.Cell} (hw : Memory.wf m = true) {cells : List (Nat × Byte)}
    (hc : ∀ c ∈ cells, c.1 < localMemorySize) (f : Nat → Byte) (hf : ∀ c ∈ cells, c.2 = f c.1) (x : Nat) :
    Memory.read (Memory.writeAt m cells) x =
      if x ∈ cells.map (fun c => c.1) then f x else Memory.read m x := by
  induction cells generalizing m with
  | nil => simp [Memory.writeAt]
  | cons c cells ih =>
    have hw' : Memory.wf (Memory.write m c.1 c.2) = true := Memory.wf_write hw c.2 (hc c (by simp))
    have h2 := hf c (by simp)
    rw [Memory.writeAt, ih hw' (fun d hd => hc d (by simp [hd])) (fun d hd => hf d (by simp [hd])),
      Memory.read_write hw]
    by_cases h : x = c.1 <;> simp [h, h2]

/-- A word access inside local memory keeps the canonical form. -/
theorem MemOp.wf_access {op : MemOp} {m : List Host.Cell} (hw : Memory.wf m = true)
    (h : 2 * op.word + 1 < localMemorySize) : Memory.wf (op.access m) = true := by
  unfold MemOp.access
  split
  · refine Memory.wf_writeAt hw (fun c hc => ?_)
    have := (MemOp.mem_lanes (MemOp.mem_cells hc).1).1
    omega
  · exact hw

/-- What the local controller sets inside local memory keeps the canonical form. -/
theorem wf_otherSideWrite {m : List Host.Cell} (hw : Memory.wf m = true) {word : Nat}
    (h : 2 * word + 1 < localMemorySize) (w : Option (BitVec 16)) :
    Memory.wf (otherSideWrite m word w) = true := by
  cases w with
  | none => exact hw
  | some v =>
    refine Memory.wf_writeAt hw (fun c hc => ?_)
    simp at hc
    rcases hc with rfl | rfl <;> simp <;> omega

/-- An access cut short keeps the canonical form (R140). -/
theorem MemOp.wf_cutMemory {op : MemOp} {m : List Host.Cell} (hw : Memory.wf m = true) (k : Nat) :
    Memory.wf (op.cutMemory k m) = true := by
  unfold MemOp.cutMemory
  split
  · refine Memory.wf_writeAt hw (fun c hc => ?_)
    simp at hc
    exact hc.2.1
  · exact hw

/-- R140: a byte of an access cut short reads its old value, or the value being written. -/
theorem MemOp.read_cutMemory {op : MemOp} {m : List Host.Cell} (hw : Memory.wf m = true) (k a : Nat) :
    Memory.read (op.cutMemory k m) a = Memory.read m a
      ∨ op.writing = true ∧ (a, Memory.read (op.cutMemory k m) a) ∈ op.cells := by
  unfold MemOp.cutMemory
  split
  · rename_i hwr
    rw [Memory.read_writeAt hw (f := fun a => op.data.getD (a - op.address) 0)]
    · split
      · rename_i h
        simp only [List.mem_map, List.mem_filter] at h
        obtain ⟨c, ⟨hc, -⟩, rfl⟩ := h
        refine Or.inr ⟨hwr, ?_⟩
        have := (MemOp.mem_cells hc).2
        rw [← this]
        exact hc
      · exact Or.inl rfl
    · intro c hc
      simp at hc
      exact hc.2.1
    · intro c hc
      simp only [List.mem_filter] at hc
      exact (MemOp.mem_cells hc.1).2
  · exact Or.inl rfl

/-- The memory after a reset is in canonical form. -/
theorem Memory.wf_reset : Memory.wf State.reset.localMem = true := rfl

end Sys2Proof.Machine
end

