-- ==== Sys2Proof/Laws/State.lean ====
section
/-! SUPPORT. One lemma for each field of State that a shared operation leaves alone or sets, true by `rfl`, so
that no proof unfolds a record update; then, for each operation over the ORT, what every entry is after it. -/

namespace Sys2Proof.Machine

/-! ### onEvents -/

@[simp] theorem State.onEvents_pending (s : State) (f : EventUnit → EventUnit) :
    (s.onEvents f).pending = s.pending := rfl
@[simp] theorem State.onEvents_held (s : State) (f : EventUnit → EventUnit) :
    (s.onEvents f).held = s.held := rfl
@[simp] theorem State.onEvents_ctl (s : State) (f : EventUnit → EventUnit) : (s.onEvents f).ctl = s.ctl := rfl
@[simp] theorem State.onEvents_windows (s : State) (f : EventUnit → EventUnit) :
    (s.onEvents f).windows = s.windows := rfl
@[simp] theorem State.onEvents_access (s : State) (f : EventUnit → EventUnit) :
    (s.onEvents f).access = s.access := rfl
@[simp] theorem State.onEvents_presence (s : State) (f : EventUnit → EventUnit) :
    (s.onEvents f).presence = s.presence := rfl
@[simp] theorem State.onEvents_tif (s : State) (f : EventUnit → EventUnit) : (s.onEvents f).tif = s.tif := rfl
@[simp] theorem State.onEvents_target (s : State) (f : EventUnit → EventUnit) :
    (s.onEvents f).target = s.target := rfl
@[simp] theorem State.onEvents_issue (s : State) (f : EventUnit → EventUnit) :
    (s.onEvents f).issue = s.issue := rfl
@[simp] theorem State.onEvents_ort (s : State) (f : EventUnit → EventUnit) : (s.onEvents f).ort = s.ort := rfl
@[simp] theorem State.onEvents_completion (s : State) (f : EventUnit → EventUnit) :
    (s.onEvents f).completion = s.completion := rfl
@[simp] theorem State.onEvents_mailbox (s : State) (f : EventUnit → EventUnit) :
    (s.onEvents f).mailbox = s.mailbox := rfl
@[simp] theorem State.onEvents_port (s : State) (f : EventUnit → EventUnit) :
    (s.onEvents f).port = s.port := rfl
@[simp] theorem State.onEvents_events (s : State) (f : EventUnit → EventUnit) :
    (s.onEvents f).events = f s.events := rfl
@[simp] theorem State.onEvents_host (s : State) (f : EventUnit → EventUnit) :
    (s.onEvents f).host = s.host := rfl
@[simp] theorem State.onEvents_localMem (s : State) (f : EventUnit → EventUnit) :
    (s.onEvents f).localMem = s.localMem := rfl
@[simp] theorem State.onEvents_freeIndex (s : State) (f : EventUnit → EventUnit) :
    (s.onEvents f).freeIndex = s.freeIndex := rfl
@[simp] theorem State.onEvents_entry (s : State) (f : EventUnit → EventUnit) (g : Tag) :
    (s.onEvents f).entry g = s.entry g := rfl

/-! ### setEntry -/

@[simp] theorem State.setEntry_pending (s : State) (t : Tag) (e : OrtEntry) :
    (s.setEntry t e).pending = s.pending := rfl
@[simp] theorem State.setEntry_held (s : State) (t : Tag) (e : OrtEntry) : (s.setEntry t e).held = s.held := rfl
@[simp] theorem State.setEntry_ctl (s : State) (t : Tag) (e : OrtEntry) : (s.setEntry t e).ctl = s.ctl := rfl
@[simp] theorem State.setEntry_windows (s : State) (t : Tag) (e : OrtEntry) :
    (s.setEntry t e).windows = s.windows := rfl
@[simp] theorem State.setEntry_access (s : State) (t : Tag) (e : OrtEntry) :
    (s.setEntry t e).access = s.access := rfl
@[simp] theorem State.setEntry_presence (s : State) (t : Tag) (e : OrtEntry) :
    (s.setEntry t e).presence = s.presence := rfl
@[simp] theorem State.setEntry_tif (s : State) (t : Tag) (e : OrtEntry) : (s.setEntry t e).tif = s.tif := rfl
@[simp] theorem State.setEntry_target (s : State) (t : Tag) (e : OrtEntry) :
    (s.setEntry t e).target = s.target := rfl
@[simp] theorem State.setEntry_issue (s : State) (t : Tag) (e : OrtEntry) :
    (s.setEntry t e).issue = s.issue := rfl
@[simp] theorem State.setEntry_ort (s : State) (t : Tag) (e : OrtEntry) :
    (s.setEntry t e).ort =
      { s.ort with entries := s.ort.entries.set t.val e t.isLt } := rfl
@[simp] theorem State.setEntry_completion (s : State) (t : Tag) (e : OrtEntry) :
    (s.setEntry t e).completion = s.completion := rfl
@[simp] theorem State.setEntry_mailbox (s : State) (t : Tag) (e : OrtEntry) :
    (s.setEntry t e).mailbox = s.mailbox := rfl
@[simp] theorem State.setEntry_port (s : State) (t : Tag) (e : OrtEntry) : (s.setEntry t e).port = s.port := rfl
@[simp] theorem State.setEntry_events (s : State) (t : Tag) (e : OrtEntry) :
    (s.setEntry t e).events = s.events := rfl
@[simp] theorem State.setEntry_host (s : State) (t : Tag) (e : OrtEntry) : (s.setEntry t e).host = s.host := rfl
@[simp] theorem State.setEntry_localMem (s : State) (t : Tag) (e : OrtEntry) :
    (s.setEntry t e).localMem = s.localMem := rfl
@[simp] theorem State.setEntry_freeIndex (s : State) (t : Tag) (e : OrtEntry) :
    (s.setEntry t e).freeIndex = s.freeIndex := rfl

/-! ### enterDone -/

@[simp] theorem State.enterDone_pending (s : State) (t : Tag) (e : OrtEntry) (st : Status) :
    (s.enterDone t e st).pending = s.pending := rfl
@[simp] theorem State.enterDone_held (s : State) (t : Tag) (e : OrtEntry) (st : Status) :
    (s.enterDone t e st).held = s.held := rfl
@[simp] theorem State.enterDone_ctl (s : State) (t : Tag) (e : OrtEntry) (st : Status) :
    (s.enterDone t e st).ctl = s.ctl := rfl
@[simp] theorem State.enterDone_windows (s : State) (t : Tag) (e : OrtEntry) (st : Status) :
    (s.enterDone t e st).windows = s.windows := rfl
@[simp] theorem State.enterDone_access (s : State) (t : Tag) (e : OrtEntry) (st : Status) :
    (s.enterDone t e st).access = s.access := rfl
@[simp] theorem State.enterDone_presence (s : State) (t : Tag) (e : OrtEntry) (st : Status) :
    (s.enterDone t e st).presence = s.presence := rfl
@[simp] theorem State.enterDone_tif (s : State) (t : Tag) (e : OrtEntry) (st : Status) :
    (s.enterDone t e st).tif = s.tif := rfl
@[simp] theorem State.enterDone_target (s : State) (t : Tag) (e : OrtEntry) (st : Status) :
    (s.enterDone t e st).target = s.target := rfl
@[simp] theorem State.enterDone_issue (s : State) (t : Tag) (e : OrtEntry) (st : Status) :
    (s.enterDone t e st).issue =
      { s.issue with unsent := s.issue.unsent.filter (fun u => decide (u ≠ t)) } := rfl
@[simp] theorem State.enterDone_ort (s : State) (t : Tag) (e : OrtEntry) (st : Status) :
    (s.enterDone t e st).ort =
      { s.ort with entries := s.ort.entries.set t.val (e.finish st) t.isLt } := rfl
@[simp] theorem State.enterDone_completion (s : State) (t : Tag) (e : OrtEntry) (st : Status) :
    (s.enterDone t e st).completion =
      { s.completion with retire := s.completion.retire ++ [t] } := rfl
@[simp] theorem State.enterDone_mailbox (s : State) (t : Tag) (e : OrtEntry) (st : Status) :
    (s.enterDone t e st).mailbox = s.mailbox := rfl
@[simp] theorem State.enterDone_port (s : State) (t : Tag) (e : OrtEntry) (st : Status) :
    (s.enterDone t e st).port = s.port := rfl
@[simp] theorem State.enterDone_events (s : State) (t : Tag) (e : OrtEntry) (st : Status) :
    (s.enterDone t e st).events = s.events := rfl
@[simp] theorem State.enterDone_host (s : State) (t : Tag) (e : OrtEntry) (st : Status) :
    (s.enterDone t e st).host = s.host := rfl
@[simp] theorem State.enterDone_localMem (s : State) (t : Tag) (e : OrtEntry) (st : Status) :
    (s.enterDone t e st).localMem = s.localMem := rfl
@[simp] theorem State.enterDone_freeIndex (s : State) (t : Tag) (e : OrtEntry) (st : Status) :
    (s.enterDone t e st).freeIndex = s.freeIndex := rfl

/-! ### freeEntry -/

@[simp] theorem State.freeEntry_pending (s : State) (t : Tag) : (s.freeEntry t).pending = s.pending := rfl
@[simp] theorem State.freeEntry_held (s : State) (t : Tag) : (s.freeEntry t).held = s.held := rfl
@[simp] theorem State.freeEntry_ctl (s : State) (t : Tag) : (s.freeEntry t).ctl = s.ctl := rfl
@[simp] theorem State.freeEntry_windows (s : State) (t : Tag) : (s.freeEntry t).windows = s.windows := rfl
@[simp] theorem State.freeEntry_access (s : State) (t : Tag) : (s.freeEntry t).access = s.access := rfl
@[simp] theorem State.freeEntry_presence (s : State) (t : Tag) : (s.freeEntry t).presence = s.presence := rfl
@[simp] theorem State.freeEntry_tif (s : State) (t : Tag) : (s.freeEntry t).tif = s.tif := rfl
@[simp] theorem State.freeEntry_target (s : State) (t : Tag) : (s.freeEntry t).target = s.target := rfl
@[simp] theorem State.freeEntry_issue (s : State) (t : Tag) : (s.freeEntry t).issue = s.issue := rfl
@[simp] theorem State.freeEntry_completion (s : State) (t : Tag) :
    (s.freeEntry t).completion = s.completion := rfl
@[simp] theorem State.freeEntry_mailbox (s : State) (t : Tag) : (s.freeEntry t).mailbox = s.mailbox := rfl
@[simp] theorem State.freeEntry_port (s : State) (t : Tag) : (s.freeEntry t).port = s.port := rfl
@[simp] theorem State.freeEntry_events (s : State) (t : Tag) : (s.freeEntry t).events = s.events := rfl
@[simp] theorem State.freeEntry_host (s : State) (t : Tag) : (s.freeEntry t).host = s.host := rfl
@[simp] theorem State.freeEntry_localMem (s : State) (t : Tag) : (s.freeEntry t).localMem = s.localMem := rfl
@[simp] theorem State.freeEntry_freeIndex (s : State) (t : Tag) : (s.freeEntry t).freeIndex = s.freeIndex := rfl

/-! ### abortRequests -/

@[simp] theorem State.abortRequests_pending (s : State) : s.abortRequests.pending = s.pending := rfl
@[simp] theorem State.abortRequests_held (s : State) : s.abortRequests.held = s.held := rfl
@[simp] theorem State.abortRequests_ctl (s : State) : s.abortRequests.ctl = s.ctl := rfl
@[simp] theorem State.abortRequests_windows (s : State) : s.abortRequests.windows = s.windows := rfl
@[simp] theorem State.abortRequests_access (s : State) : s.abortRequests.access = s.access := rfl
@[simp] theorem State.abortRequests_presence (s : State) : s.abortRequests.presence = s.presence := rfl
@[simp] theorem State.abortRequests_tif (s : State) : s.abortRequests.tif = s.tif := rfl
@[simp] theorem State.abortRequests_target (s : State) : s.abortRequests.target = s.target := rfl
@[simp] theorem State.abortRequests_issue (s : State) :
    s.abortRequests.issue = { s.issue with unsent := [] } := rfl
@[simp] theorem State.abortRequests_mailbox (s : State) : s.abortRequests.mailbox = s.mailbox := rfl
@[simp] theorem State.abortRequests_port (s : State) : s.abortRequests.port = s.port := rfl
@[simp] theorem State.abortRequests_events (s : State) : s.abortRequests.events = s.events := rfl
@[simp] theorem State.abortRequests_host (s : State) : s.abortRequests.host = s.host := rfl
@[simp] theorem State.abortRequests_localMem (s : State) : s.abortRequests.localMem = s.localMem := rfl
@[simp] theorem State.abortRequests_freeIndex (s : State) : s.abortRequests.freeIndex = s.freeIndex := rfl

/-! ### freeStale -/

@[simp] theorem State.freeStale_pending (s : State) : s.freeStale.pending = s.pending := by simp only [State.freeStale]
@[simp] theorem State.freeStale_held (s : State) : s.freeStale.held = s.held := by simp only [State.freeStale]
@[simp] theorem State.freeStale_ctl (s : State) : s.freeStale.ctl = s.ctl := by simp only [State.freeStale]
@[simp] theorem State.freeStale_windows (s : State) : s.freeStale.windows = s.windows := by simp only [State.freeStale]
@[simp] theorem State.freeStale_access (s : State) : s.freeStale.access = s.access := by simp only [State.freeStale]
@[simp] theorem State.freeStale_presence (s : State) : s.freeStale.presence = s.presence := by simp only [State.freeStale]
@[simp] theorem State.freeStale_tif (s : State) : s.freeStale.tif = s.tif := by simp only [State.freeStale]
@[simp] theorem State.freeStale_target (s : State) : s.freeStale.target = s.target := by simp only [State.freeStale]
@[simp] theorem State.freeStale_issue (s : State) : s.freeStale.issue = s.issue := by simp only [State.freeStale]
@[simp] theorem State.freeStale_completion (s : State) : s.freeStale.completion = s.completion := by simp only [State.freeStale]
@[simp] theorem State.freeStale_mailbox (s : State) : s.freeStale.mailbox = s.mailbox := by simp only [State.freeStale]
@[simp] theorem State.freeStale_port (s : State) : s.freeStale.port = s.port := by simp only [State.freeStale]
@[simp] theorem State.freeStale_events (s : State) : s.freeStale.events = s.events := by simp only [State.freeStale]
@[simp] theorem State.freeStale_host (s : State) : s.freeStale.host = s.host := by simp only [State.freeStale]
@[simp] theorem State.freeStale_localMem (s : State) : s.freeStale.localMem = s.localMem := by simp only [State.freeStale]
@[simp] theorem State.freeStale_freeIndex (s : State) : s.freeStale.freeIndex = s.freeIndex := by simp only [State.freeStale]

/-! ### ortStationLost -/

@[simp] theorem State.ortStationLost_pending (s : State) (st : StationNo) :
    (s.ortStationLost st).pending = s.pending := by simp only [State.ortStationLost]
@[simp] theorem State.ortStationLost_held (s : State) (st : StationNo) :
    (s.ortStationLost st).held = s.held := by simp only [State.ortStationLost]
@[simp] theorem State.ortStationLost_ctl (s : State) (st : StationNo) : (s.ortStationLost st).ctl = s.ctl := by simp only [State.ortStationLost]
@[simp] theorem State.ortStationLost_windows (s : State) (st : StationNo) :
    (s.ortStationLost st).windows = s.windows := by simp only [State.ortStationLost]
@[simp] theorem State.ortStationLost_access (s : State) (st : StationNo) :
    (s.ortStationLost st).access = s.access := by simp only [State.ortStationLost]
@[simp] theorem State.ortStationLost_presence (s : State) (st : StationNo) :
    (s.ortStationLost st).presence = s.presence := by simp only [State.ortStationLost]
@[simp] theorem State.ortStationLost_tif (s : State) (st : StationNo) : (s.ortStationLost st).tif = s.tif := by simp only [State.ortStationLost]
@[simp] theorem State.ortStationLost_target (s : State) (st : StationNo) :
    (s.ortStationLost st).target = s.target := by simp only [State.ortStationLost]
@[simp] theorem State.ortStationLost_issue (s : State) (st : StationNo) :
    (s.ortStationLost st).issue = s.issue := by simp only [State.ortStationLost]
@[simp] theorem State.ortStationLost_mailbox (s : State) (st : StationNo) :
    (s.ortStationLost st).mailbox = s.mailbox := by simp only [State.ortStationLost]
@[simp] theorem State.ortStationLost_port (s : State) (st : StationNo) :
    (s.ortStationLost st).port = s.port := by simp only [State.ortStationLost]
@[simp] theorem State.ortStationLost_events (s : State) (st : StationNo) :
    (s.ortStationLost st).events = s.events := by simp only [State.ortStationLost]
@[simp] theorem State.ortStationLost_host (s : State) (st : StationNo) :
    (s.ortStationLost st).host = s.host := by simp only [State.ortStationLost]
@[simp] theorem State.ortStationLost_localMem (s : State) (st : StationNo) :
    (s.ortStationLost st).localMem = s.localMem := by simp only [State.ortStationLost]
@[simp] theorem State.ortStationLost_freeIndex (s : State) (st : StationNo) :
    (s.ortStationLost st).freeIndex = s.freeIndex := by simp only [State.ortStationLost]

/-! ### emptyTarget -/

@[simp] theorem State.emptyTarget_pending (s : State) : s.emptyTarget.pending = s.pending := rfl
@[simp] theorem State.emptyTarget_held (s : State) : s.emptyTarget.held = s.held := rfl
@[simp] theorem State.emptyTarget_ctl (s : State) : s.emptyTarget.ctl = s.ctl := rfl
@[simp] theorem State.emptyTarget_windows (s : State) : s.emptyTarget.windows = s.windows := rfl
@[simp] theorem State.emptyTarget_access (s : State) : s.emptyTarget.access = s.access := rfl
@[simp] theorem State.emptyTarget_presence (s : State) : s.emptyTarget.presence = s.presence := rfl
@[simp] theorem State.emptyTarget_tif (s : State) : s.emptyTarget.tif = s.tif := rfl
@[simp] theorem State.emptyTarget_target (s : State) :
    s.emptyTarget.target =
      { service := [], responses := [], nonPosted := 0 } := rfl
@[simp] theorem State.emptyTarget_issue (s : State) : s.emptyTarget.issue = s.issue := rfl
@[simp] theorem State.emptyTarget_ort (s : State) : s.emptyTarget.ort = s.ort := rfl
@[simp] theorem State.emptyTarget_completion (s : State) : s.emptyTarget.completion = s.completion := rfl
@[simp] theorem State.emptyTarget_mailbox (s : State) :
    s.emptyTarget.mailbox = { s.mailbox with reserved := 0 } := rfl
@[simp] theorem State.emptyTarget_port (s : State) : s.emptyTarget.port = s.port.map MemOp.discardTarget := rfl
@[simp] theorem State.emptyTarget_events (s : State) : s.emptyTarget.events = s.events := rfl
@[simp] theorem State.emptyTarget_host (s : State) : s.emptyTarget.host = s.host := rfl
@[simp] theorem State.emptyTarget_localMem (s : State) : s.emptyTarget.localMem = s.localMem := rfl
@[simp] theorem State.emptyTarget_freeIndex (s : State) : s.emptyTarget.freeIndex = s.freeIndex := rfl
@[simp] theorem State.emptyTarget_entry (s : State) (g : Tag) :
    s.emptyTarget.entry g = s.entry g := rfl

/-! ### targetStationLost -/

@[simp] theorem State.targetStationLost_pending (s : State) (st : StationNo) :
    (s.targetStationLost st).pending = s.pending := rfl
@[simp] theorem State.targetStationLost_held (s : State) (st : StationNo) :
    (s.targetStationLost st).held = s.held := rfl
@[simp] theorem State.targetStationLost_ctl (s : State) (st : StationNo) :
    (s.targetStationLost st).ctl = s.ctl := rfl
@[simp] theorem State.targetStationLost_windows (s : State) (st : StationNo) :
    (s.targetStationLost st).windows = s.windows := rfl
@[simp] theorem State.targetStationLost_access (s : State) (st : StationNo) :
    (s.targetStationLost st).access = s.access := rfl
@[simp] theorem State.targetStationLost_presence (s : State) (st : StationNo) :
    (s.targetStationLost st).presence = s.presence := rfl
@[simp] theorem State.targetStationLost_tif (s : State) (st : StationNo) :
    (s.targetStationLost st).tif = s.tif := rfl
@[simp] theorem State.targetStationLost_issue (s : State) (st : StationNo) :
    (s.targetStationLost st).issue = s.issue := rfl
@[simp] theorem State.targetStationLost_ort (s : State) (st : StationNo) :
    (s.targetStationLost st).ort = s.ort := rfl
@[simp] theorem State.targetStationLost_completion (s : State) (st : StationNo) :
    (s.targetStationLost st).completion = s.completion := rfl
@[simp] theorem State.targetStationLost_mailbox (s : State) (st : StationNo) :
    (s.targetStationLost st).mailbox = s.mailbox := rfl
@[simp] theorem State.targetStationLost_port (s : State) (st : StationNo) :
    (s.targetStationLost st).port = s.port := rfl
@[simp] theorem State.targetStationLost_host (s : State) (st : StationNo) :
    (s.targetStationLost st).host = s.host := rfl
@[simp] theorem State.targetStationLost_localMem (s : State) (st : StationNo) :
    (s.targetStationLost st).localMem = s.localMem := rfl
@[simp] theorem State.targetStationLost_freeIndex (s : State) (st : StationNo) :
    (s.targetStationLost st).freeIndex = s.freeIndex := rfl
@[simp] theorem State.targetStationLost_entry (s : State) (st : StationNo) (g : Tag) :
    (s.targetStationLost st).entry g = s.entry g := rfl

/-! ### removeResponse -/

@[simp] theorem State.removeResponse_pending (s : State) (i : Nat) :
    (s.removeResponse i).pending = s.pending := rfl
@[simp] theorem State.removeResponse_held (s : State) (i : Nat) : (s.removeResponse i).held = s.held := rfl
@[simp] theorem State.removeResponse_ctl (s : State) (i : Nat) : (s.removeResponse i).ctl = s.ctl := rfl
@[simp] theorem State.removeResponse_windows (s : State) (i : Nat) :
    (s.removeResponse i).windows = s.windows := rfl
@[simp] theorem State.removeResponse_access (s : State) (i : Nat) :
    (s.removeResponse i).access = s.access := rfl
@[simp] theorem State.removeResponse_presence (s : State) (i : Nat) :
    (s.removeResponse i).presence = s.presence := rfl
@[simp] theorem State.removeResponse_tif (s : State) (i : Nat) : (s.removeResponse i).tif = s.tif := rfl
@[simp] theorem State.removeResponse_target (s : State) (i : Nat) :
    (s.removeResponse i).target =
      { s.target with
      responses := s.target.responses.eraseIdx i, nonPosted := s.target.nonPosted - 1 } := rfl
@[simp] theorem State.removeResponse_issue (s : State) (i : Nat) : (s.removeResponse i).issue = s.issue := rfl
@[simp] theorem State.removeResponse_ort (s : State) (i : Nat) : (s.removeResponse i).ort = s.ort := rfl
@[simp] theorem State.removeResponse_completion (s : State) (i : Nat) :
    (s.removeResponse i).completion = s.completion := rfl
@[simp] theorem State.removeResponse_mailbox (s : State) (i : Nat) :
    (s.removeResponse i).mailbox = s.mailbox := rfl
@[simp] theorem State.removeResponse_port (s : State) (i : Nat) : (s.removeResponse i).port = s.port := rfl
@[simp] theorem State.removeResponse_events (s : State) (i : Nat) :
    (s.removeResponse i).events = s.events := rfl
@[simp] theorem State.removeResponse_host (s : State) (i : Nat) : (s.removeResponse i).host = s.host := rfl
@[simp] theorem State.removeResponse_localMem (s : State) (i : Nat) :
    (s.removeResponse i).localMem = s.localMem := rfl
@[simp] theorem State.removeResponse_freeIndex (s : State) (i : Nat) :
    (s.removeResponse i).freeIndex = s.freeIndex := rfl
@[simp] theorem State.removeResponse_entry (s : State) (i : Nat) (g : Tag) :
    (s.removeResponse i).entry g = s.entry g := rfl

/-! ### dropResponse -/

@[simp] theorem State.dropResponse_pending (s : State) (i : Nat) : (s.dropResponse i).pending = s.pending := rfl
@[simp] theorem State.dropResponse_held (s : State) (i : Nat) : (s.dropResponse i).held = s.held := rfl
@[simp] theorem State.dropResponse_ctl (s : State) (i : Nat) : (s.dropResponse i).ctl = s.ctl := rfl
@[simp] theorem State.dropResponse_windows (s : State) (i : Nat) : (s.dropResponse i).windows = s.windows := rfl
@[simp] theorem State.dropResponse_access (s : State) (i : Nat) : (s.dropResponse i).access = s.access := rfl
@[simp] theorem State.dropResponse_presence (s : State) (i : Nat) :
    (s.dropResponse i).presence = s.presence := rfl
@[simp] theorem State.dropResponse_tif (s : State) (i : Nat) : (s.dropResponse i).tif = s.tif := rfl
@[simp] theorem State.dropResponse_issue (s : State) (i : Nat) : (s.dropResponse i).issue = s.issue := rfl
@[simp] theorem State.dropResponse_ort (s : State) (i : Nat) : (s.dropResponse i).ort = s.ort := rfl
@[simp] theorem State.dropResponse_completion (s : State) (i : Nat) :
    (s.dropResponse i).completion = s.completion := rfl
@[simp] theorem State.dropResponse_mailbox (s : State) (i : Nat) : (s.dropResponse i).mailbox = s.mailbox := rfl
@[simp] theorem State.dropResponse_port (s : State) (i : Nat) : (s.dropResponse i).port = s.port := rfl
@[simp] theorem State.dropResponse_host (s : State) (i : Nat) : (s.dropResponse i).host = s.host := rfl
@[simp] theorem State.dropResponse_localMem (s : State) (i : Nat) :
    (s.dropResponse i).localMem = s.localMem := rfl
@[simp] theorem State.dropResponse_freeIndex (s : State) (i : Nat) :
    (s.dropResponse i).freeIndex = s.freeIndex := rfl
@[simp] theorem State.dropResponse_entry (s : State) (i : Nat) (g : Tag) :
    (s.dropResponse i).entry g = s.entry g := rfl

/-! ### popService -/

@[simp] theorem State.popService_pending (s : State) : s.popService.pending = s.pending := rfl
@[simp] theorem State.popService_held (s : State) : s.popService.held = s.held := rfl
@[simp] theorem State.popService_ctl (s : State) : s.popService.ctl = s.ctl := rfl
@[simp] theorem State.popService_windows (s : State) : s.popService.windows = s.windows := rfl
@[simp] theorem State.popService_access (s : State) : s.popService.access = s.access := rfl
@[simp] theorem State.popService_presence (s : State) : s.popService.presence = s.presence := rfl
@[simp] theorem State.popService_tif (s : State) : s.popService.tif = s.tif := rfl
@[simp] theorem State.popService_target (s : State) :
    s.popService.target =
      { s.target with service := s.target.service.tail } := rfl
@[simp] theorem State.popService_issue (s : State) : s.popService.issue = s.issue := rfl
@[simp] theorem State.popService_ort (s : State) : s.popService.ort = s.ort := rfl
@[simp] theorem State.popService_completion (s : State) : s.popService.completion = s.completion := rfl
@[simp] theorem State.popService_mailbox (s : State) : s.popService.mailbox = s.mailbox := rfl
@[simp] theorem State.popService_port (s : State) : s.popService.port = s.port := rfl
@[simp] theorem State.popService_events (s : State) : s.popService.events = s.events := rfl
@[simp] theorem State.popService_host (s : State) : s.popService.host = s.host := rfl
@[simp] theorem State.popService_localMem (s : State) : s.popService.localMem = s.localMem := rfl
@[simp] theorem State.popService_freeIndex (s : State) : s.popService.freeIndex = s.freeIndex := rfl
@[simp] theorem State.popService_entry (s : State) (g : Tag) :
    s.popService.entry g = s.entry g := rfl

/-! ### beginAccess -/

@[simp] theorem State.beginAccess_pending (s : State) (op : MemOp) : (s.beginAccess op).pending = s.pending := rfl
@[simp] theorem State.beginAccess_held (s : State) (op : MemOp) : (s.beginAccess op).held = s.held := rfl
@[simp] theorem State.beginAccess_ctl (s : State) (op : MemOp) : (s.beginAccess op).ctl = s.ctl := rfl
@[simp] theorem State.beginAccess_windows (s : State) (op : MemOp) : (s.beginAccess op).windows = s.windows := rfl
@[simp] theorem State.beginAccess_access (s : State) (op : MemOp) : (s.beginAccess op).access = s.access := rfl
@[simp] theorem State.beginAccess_presence (s : State) (op : MemOp) : (s.beginAccess op).presence = s.presence := rfl
@[simp] theorem State.beginAccess_tif (s : State) (op : MemOp) : (s.beginAccess op).tif = s.tif := rfl
@[simp] theorem State.beginAccess_target (s : State) (op : MemOp) : (s.beginAccess op).target = s.target := rfl
@[simp] theorem State.beginAccess_issue (s : State) (op : MemOp) : (s.beginAccess op).issue = s.issue := rfl
@[simp] theorem State.beginAccess_ort (s : State) (op : MemOp) : (s.beginAccess op).ort = s.ort := rfl
@[simp] theorem State.beginAccess_completion (s : State) (op : MemOp) : (s.beginAccess op).completion = s.completion := rfl
@[simp] theorem State.beginAccess_mailbox (s : State) (op : MemOp) : (s.beginAccess op).mailbox = s.mailbox := rfl
@[simp] theorem State.beginAccess_events (s : State) (op : MemOp) : (s.beginAccess op).events = s.events := rfl
@[simp] theorem State.beginAccess_host (s : State) (op : MemOp) : (s.beginAccess op).host = s.host := rfl
@[simp] theorem State.beginAccess_localMem (s : State) (op : MemOp) : (s.beginAccess op).localMem = s.localMem := rfl
@[simp] theorem State.beginAccess_freeIndex (s : State) (op : MemOp) : (s.beginAccess op).freeIndex = s.freeIndex := rfl
@[simp] theorem State.beginAccess_port (s : State) (op : MemOp) :
    (s.beginAccess op).port = some { op with wait := s.ctl.waitLimit.toNat } := rfl
@[simp] theorem State.beginAccess_entry (s : State) (op : MemOp) (g : Tag) :
    (s.beginAccess op).entry g = s.entry g := rfl

@[simp] theorem State.respond_port (s : State) (e : ServiceEntry) (status : CplStatus) (swapped : Bool)
    (data : List Byte) : (s.respond e status swapped data).port = s.port := by
  unfold State.respond
  split <;> rfl

/-- R131: no requester starts another operation as one ends. -/
@[simp] theorem State.endOperation_port (s : State) (op : MemOp) (fault : Bool) :
    (s.endOperation op fault).port = none := by
  simp only [State.endOperation, State.finishService, State.finishFetch, State.finishStore]
  repeat' split
  all_goals simp

/-- R133: everything WAIT_TIMER_EXPIRY can do: nothing, or end the operation whose access has waited its limit. -/
theorem execWaitTimerExpiry_cases (s t : State) (h : execWaitTimerExpiry s = .next t) :
    t = s ∨ ∃ op, s.port = some op ∧ op.wait = 0 ∧ t = s.endOperation op true := by
  unfold execWaitTimerExpiry at h
  injection h with h
  subst h
  split
  · exact .inl rfl
  · split
    · exact .inr ⟨_, ‹_›, ‹_›, rfl⟩
    · exact .inl rfl

/-- R133: everything the completion of an access can leave on the port: nothing, or the same operation with its
next access begun. -/
theorem State.completeAccess_port (s : State) (op : MemOp) (other : Option (BitVec 16)) :
    (s.completeAccess op other).port = none
      ∨ ∃ op', (s.completeAccess op other).port = some op' ∧ op'.wait = s.ctl.waitLimit.toNat := by
  unfold State.completeAccess
  simp only
  split
  · exact .inl (by simp)
  · exact .inr ⟨_, rfl, rfl⟩

/-! ### loseSync -/

@[simp] theorem State.loseSync_pending (s : State) : s.loseSync.pending = s.pending := rfl
@[simp] theorem State.loseSync_held (s : State) : s.loseSync.held = s.held := rfl
@[simp] theorem State.loseSync_ctl (s : State) : s.loseSync.ctl = s.ctl := rfl
@[simp] theorem State.loseSync_windows (s : State) : s.loseSync.windows = s.windows := rfl
@[simp] theorem State.loseSync_access (s : State) : s.loseSync.access = { s.access with sync := .lost } := rfl
@[simp] theorem State.loseSync_presence (s : State) : s.loseSync.presence = s.presence := rfl
@[simp] theorem State.loseSync_tif (s : State) : s.loseSync.tif = s.tif := rfl
@[simp] theorem State.loseSync_target (s : State) : s.loseSync.target = s.target := rfl
@[simp] theorem State.loseSync_issue (s : State) : s.loseSync.issue = s.issue := rfl
@[simp] theorem State.loseSync_ort (s : State) : s.loseSync.ort = s.ort := rfl
@[simp] theorem State.loseSync_completion (s : State) : s.loseSync.completion = s.completion := rfl
@[simp] theorem State.loseSync_mailbox (s : State) : s.loseSync.mailbox = s.mailbox := rfl
@[simp] theorem State.loseSync_port (s : State) : s.loseSync.port = s.port := rfl
@[simp] theorem State.loseSync_host (s : State) : s.loseSync.host = s.host := rfl
@[simp] theorem State.loseSync_localMem (s : State) : s.loseSync.localMem = s.localMem := rfl
@[simp] theorem State.loseSync_freeIndex (s : State) : s.loseSync.freeIndex = s.freeIndex := rfl
@[simp] theorem State.loseSync_entry (s : State) (g : Tag) :
    s.loseSync.entry g = s.entry g := rfl

/-! ### stopBeacon -/

@[simp] theorem State.stopBeacon_pending (s : State) : s.stopBeacon.pending = s.pending := rfl
@[simp] theorem State.stopBeacon_held (s : State) : s.stopBeacon.held = s.held := rfl
@[simp] theorem State.stopBeacon_ctl (s : State) : s.stopBeacon.ctl = s.ctl := rfl
@[simp] theorem State.stopBeacon_windows (s : State) : s.stopBeacon.windows = s.windows := rfl
@[simp] theorem State.stopBeacon_access (s : State) : s.stopBeacon.access = s.access := rfl
@[simp] theorem State.stopBeacon_presence (s : State) :
    s.stopBeacon.presence =
      { s.presence with beaconTimer := .stopped, beaconQueued := false } := rfl
@[simp] theorem State.stopBeacon_tif (s : State) : s.stopBeacon.tif = s.tif := rfl
@[simp] theorem State.stopBeacon_target (s : State) : s.stopBeacon.target = s.target := rfl
@[simp] theorem State.stopBeacon_issue (s : State) : s.stopBeacon.issue = s.issue := rfl
@[simp] theorem State.stopBeacon_ort (s : State) : s.stopBeacon.ort = s.ort := rfl
@[simp] theorem State.stopBeacon_completion (s : State) : s.stopBeacon.completion = s.completion := rfl
@[simp] theorem State.stopBeacon_mailbox (s : State) : s.stopBeacon.mailbox = s.mailbox := rfl
@[simp] theorem State.stopBeacon_port (s : State) : s.stopBeacon.port = s.port := rfl
@[simp] theorem State.stopBeacon_events (s : State) : s.stopBeacon.events = s.events := rfl
@[simp] theorem State.stopBeacon_host (s : State) : s.stopBeacon.host = s.host := rfl
@[simp] theorem State.stopBeacon_localMem (s : State) : s.stopBeacon.localMem = s.localMem := rfl
@[simp] theorem State.stopBeacon_freeIndex (s : State) : s.stopBeacon.freeIndex = s.freeIndex := rfl
@[simp] theorem State.stopBeacon_entry (s : State) (g : Tag) :
    s.stopBeacon.entry g = s.entry g := rfl

/-! ### dropUnbegunMark -/

@[simp] theorem State.dropUnbegunMark_pending (s : State) : s.dropUnbegunMark.pending = s.pending := rfl
@[simp] theorem State.dropUnbegunMark_held (s : State) : s.dropUnbegunMark.held = s.held := rfl
@[simp] theorem State.dropUnbegunMark_ctl (s : State) : s.dropUnbegunMark.ctl = s.ctl := rfl
@[simp] theorem State.dropUnbegunMark_windows (s : State) : s.dropUnbegunMark.windows = s.windows := rfl
@[simp] theorem State.dropUnbegunMark_access (s : State) : s.dropUnbegunMark.access = s.access := rfl
@[simp] theorem State.dropUnbegunMark_presence (s : State) : s.dropUnbegunMark.presence = s.presence := rfl
@[simp] theorem State.dropUnbegunMark_target (s : State) : s.dropUnbegunMark.target = s.target := rfl
@[simp] theorem State.dropUnbegunMark_issue (s : State) : s.dropUnbegunMark.issue = s.issue := rfl
@[simp] theorem State.dropUnbegunMark_ort (s : State) : s.dropUnbegunMark.ort = s.ort := rfl
@[simp] theorem State.dropUnbegunMark_completion (s : State) :
    s.dropUnbegunMark.completion = s.completion := rfl
@[simp] theorem State.dropUnbegunMark_mailbox (s : State) : s.dropUnbegunMark.mailbox = s.mailbox := rfl
@[simp] theorem State.dropUnbegunMark_port (s : State) : s.dropUnbegunMark.port = s.port := rfl
@[simp] theorem State.dropUnbegunMark_events (s : State) : s.dropUnbegunMark.events = s.events := rfl
@[simp] theorem State.dropUnbegunMark_host (s : State) : s.dropUnbegunMark.host = s.host := rfl
@[simp] theorem State.dropUnbegunMark_localMem (s : State) : s.dropUnbegunMark.localMem = s.localMem := rfl
@[simp] theorem State.dropUnbegunMark_freeIndex (s : State) : s.dropUnbegunMark.freeIndex = s.freeIndex := rfl
@[simp] theorem State.dropUnbegunMark_entry (s : State) (g : Tag) :
    s.dropUnbegunMark.entry g = s.entry g := rfl

/-! ### leaveTrunk -/

@[simp] theorem State.leaveTrunk_pending (s : State) : s.leaveTrunk.pending = s.pending := rfl
@[simp] theorem State.leaveTrunk_held (s : State) : s.leaveTrunk.held = s.held := rfl
@[simp] theorem State.leaveTrunk_ctl (s : State) :
    s.leaveTrunk.ctl =
      { s.ctl with station := .config, joinHoldoff := none } := rfl
@[simp] theorem State.leaveTrunk_windows (s : State) : s.leaveTrunk.windows = s.windows := rfl
@[simp] theorem State.leaveTrunk_access (s : State) :
    s.leaveTrunk.access =
      { s.access with sync := .lost, collisions := 0 } := rfl
@[simp] theorem State.leaveTrunk_target (s : State) : s.leaveTrunk.target = s.target := rfl
@[simp] theorem State.leaveTrunk_issue (s : State) : s.leaveTrunk.issue = s.issue := rfl
@[simp] theorem State.leaveTrunk_ort (s : State) : s.leaveTrunk.ort = s.ort := rfl
@[simp] theorem State.leaveTrunk_completion (s : State) : s.leaveTrunk.completion = s.completion := rfl
@[simp] theorem State.leaveTrunk_mailbox (s : State) : s.leaveTrunk.mailbox = s.mailbox := rfl
@[simp] theorem State.leaveTrunk_port (s : State) : s.leaveTrunk.port = s.port := rfl
@[simp] theorem State.leaveTrunk_events (s : State) : s.leaveTrunk.events = s.events := rfl
@[simp] theorem State.leaveTrunk_host (s : State) : s.leaveTrunk.host = s.host := rfl
@[simp] theorem State.leaveTrunk_localMem (s : State) : s.leaveTrunk.localMem = s.localMem := rfl
@[simp] theorem State.leaveTrunk_freeIndex (s : State) : s.leaveTrunk.freeIndex = s.freeIndex := rfl
@[simp] theorem State.leaveTrunk_entry (s : State) (g : Tag) :
    s.leaveTrunk.entry g = s.entry g := rfl

/-! ### enterJoining -/

@[simp] theorem State.enterJoining_pending (s : State) : s.enterJoining.pending = s.pending := rfl
@[simp] theorem State.enterJoining_held (s : State) : s.enterJoining.held = s.held := rfl
@[simp] theorem State.enterJoining_ctl (s : State) :
    s.enterJoining.ctl =
      { s.ctl with station := .joining, joinHoldoff := some joinHoldoffTicks } := rfl
@[simp] theorem State.enterJoining_windows (s : State) :
    s.enterJoining.windows = clearWindowCounts s.windows := rfl
@[simp] theorem State.enterJoining_presence (s : State) : s.enterJoining.presence = s.presence := rfl
@[simp] theorem State.enterJoining_tif (s : State) :
    s.enterJoining.tif = Tif.busyWith s.tif.tx := rfl
@[simp] theorem State.enterJoining_target (s : State) : s.enterJoining.target = s.target := rfl
@[simp] theorem State.enterJoining_issue (s : State) : s.enterJoining.issue = s.issue := rfl
@[simp] theorem State.enterJoining_ort (s : State) : s.enterJoining.ort = s.ort := rfl
@[simp] theorem State.enterJoining_completion (s : State) : s.enterJoining.completion = s.completion := rfl
@[simp] theorem State.enterJoining_mailbox (s : State) : s.enterJoining.mailbox = s.mailbox := rfl
@[simp] theorem State.enterJoining_port (s : State) : s.enterJoining.port = s.port := rfl
@[simp] theorem State.enterJoining_events (s : State) : s.enterJoining.events = s.events := rfl
@[simp] theorem State.enterJoining_host (s : State) : s.enterJoining.host = s.host := rfl
@[simp] theorem State.enterJoining_localMem (s : State) : s.enterJoining.localMem = s.localMem := rfl
@[simp] theorem State.enterJoining_freeIndex (s : State) : s.enterJoining.freeIndex = s.freeIndex := rfl
@[simp] theorem State.enterJoining_entry (s : State) (g : Tag) :
    s.enterJoining.entry g = s.entry g := rfl

/-! ### detach -/

@[simp] theorem State.detach_pending (s : State) (kind : FaultKind) : (s.detach kind).pending = s.pending := by simp only [State.detach, State.onEvents_pending, State.abortRequests_pending, State.emptyTarget_pending, State.stopBeacon_pending, State.dropUnbegunMark_pending]
@[simp] theorem State.detach_held (s : State) (kind : FaultKind) : (s.detach kind).held = s.held := by simp only [State.detach, State.onEvents_held, State.abortRequests_held, State.emptyTarget_held, State.stopBeacon_held, State.dropUnbegunMark_held]
@[simp] theorem State.detach_ctl (s : State) (kind : FaultKind) :
    (s.detach kind).ctl = { s.ctl with station := .detached } := by simp only [State.detach, State.onEvents_ctl, State.abortRequests_ctl, State.emptyTarget_ctl, State.stopBeacon_ctl, State.dropUnbegunMark_ctl]
@[simp] theorem State.detach_windows (s : State) (kind : FaultKind) : (s.detach kind).windows = s.windows := by simp only [State.detach, State.onEvents_windows, State.abortRequests_windows, State.emptyTarget_windows, State.stopBeacon_windows, State.dropUnbegunMark_windows]
@[simp] theorem State.detach_access (s : State) (kind : FaultKind) : (s.detach kind).access = s.access := by simp only [State.detach, State.onEvents_access, State.abortRequests_access, State.emptyTarget_access, State.stopBeacon_access, State.dropUnbegunMark_access]
@[simp] theorem State.detach_host (s : State) (kind : FaultKind) : (s.detach kind).host = s.host := by simp only [State.detach, State.onEvents_host, State.abortRequests_host, State.emptyTarget_host, State.stopBeacon_host, State.dropUnbegunMark_host]
@[simp] theorem State.detach_localMem (s : State) (kind : FaultKind) :
    (s.detach kind).localMem = s.localMem := by simp only [State.detach, State.onEvents_localMem, State.abortRequests_localMem, State.emptyTarget_localMem, State.stopBeacon_localMem, State.dropUnbegunMark_localMem]
@[simp] theorem State.detach_freeIndex (s : State) (kind : FaultKind) :
    (s.detach kind).freeIndex = s.freeIndex := by simp only [State.detach, State.onEvents_freeIndex, State.abortRequests_freeIndex, State.emptyTarget_freeIndex, State.stopBeacon_freeIndex, State.dropUnbegunMark_freeIndex]

/-! ### failJoin -/

@[simp] theorem State.failJoin_pending (s : State) : s.failJoin.pending = s.pending := by simp only [State.failJoin, State.onEvents_pending, State.leaveTrunk_pending]
@[simp] theorem State.failJoin_held (s : State) : s.failJoin.held = s.held := by simp only [State.failJoin, State.onEvents_held, State.leaveTrunk_held]
@[simp] theorem State.failJoin_ctl (s : State) :
    s.failJoin.ctl =
      { s.ctl with station := .config, joinHoldoff := none } := by simp only [State.failJoin, State.onEvents_ctl, State.leaveTrunk_ctl]
@[simp] theorem State.failJoin_windows (s : State) : s.failJoin.windows = s.windows := by simp only [State.failJoin, State.onEvents_windows, State.leaveTrunk_windows]
@[simp] theorem State.failJoin_target (s : State) : s.failJoin.target = s.target := by simp only [State.failJoin, State.onEvents_target, State.leaveTrunk_target]
@[simp] theorem State.failJoin_issue (s : State) : s.failJoin.issue = s.issue := by simp only [State.failJoin, State.onEvents_issue, State.leaveTrunk_issue]
@[simp] theorem State.failJoin_ort (s : State) : s.failJoin.ort = s.ort := by simp only [State.failJoin, State.onEvents_ort, State.leaveTrunk_ort]
@[simp] theorem State.failJoin_completion (s : State) : s.failJoin.completion = s.completion := by simp only [State.failJoin, State.onEvents_completion, State.leaveTrunk_completion]
@[simp] theorem State.failJoin_mailbox (s : State) : s.failJoin.mailbox = s.mailbox := by simp only [State.failJoin, State.onEvents_mailbox, State.leaveTrunk_mailbox]
@[simp] theorem State.failJoin_port (s : State) : s.failJoin.port = s.port := by simp only [State.failJoin, State.onEvents_port, State.leaveTrunk_port]
@[simp] theorem State.failJoin_host (s : State) : s.failJoin.host = s.host := by simp only [State.failJoin, State.onEvents_host, State.leaveTrunk_host]
@[simp] theorem State.failJoin_localMem (s : State) : s.failJoin.localMem = s.localMem := by simp only [State.failJoin, State.onEvents_localMem, State.leaveTrunk_localMem]
@[simp] theorem State.failJoin_freeIndex (s : State) : s.failJoin.freeIndex = s.freeIndex := by simp only [State.failJoin, State.onEvents_freeIndex, State.leaveTrunk_freeIndex]
@[simp] theorem State.failJoin_entry (s : State) (g : Tag) :
    s.failJoin.entry g = s.entry g := by simp only [State.failJoin, State.onEvents_entry, State.leaveTrunk_entry]

/-! ### abortStation -/

@[simp] theorem State.abortStation_pending (s : State) : s.abortStation.pending = s.pending := by simp only [State.abortStation, State.abortRequests_pending, State.emptyTarget_pending, State.dropUnbegunMark_pending, State.leaveTrunk_pending]
@[simp] theorem State.abortStation_held (s : State) : s.abortStation.held = s.held := by simp only [State.abortStation, State.abortRequests_held, State.emptyTarget_held, State.dropUnbegunMark_held, State.leaveTrunk_held]
@[simp] theorem State.abortStation_ctl (s : State) :
    s.abortStation.ctl =
      { s.ctl with station := .config, joinHoldoff := none } := by simp only [State.abortStation, State.abortRequests_ctl, State.emptyTarget_ctl, State.dropUnbegunMark_ctl, State.leaveTrunk_ctl]
@[simp] theorem State.abortStation_windows (s : State) : s.abortStation.windows = s.windows := by simp only [State.abortStation, State.abortRequests_windows, State.emptyTarget_windows, State.dropUnbegunMark_windows, State.leaveTrunk_windows]
@[simp] theorem State.abortStation_events (s : State) : s.abortStation.events = s.events := by simp only [State.abortStation, State.abortRequests_events, State.emptyTarget_events, State.dropUnbegunMark_events, State.leaveTrunk_events]
@[simp] theorem State.abortStation_host (s : State) : s.abortStation.host = s.host := by simp only [State.abortStation, State.abortRequests_host, State.emptyTarget_host, State.dropUnbegunMark_host, State.leaveTrunk_host]
@[simp] theorem State.abortStation_localMem (s : State) : s.abortStation.localMem = s.localMem := by simp only [State.abortStation, State.abortRequests_localMem, State.emptyTarget_localMem, State.dropUnbegunMark_localMem, State.leaveTrunk_localMem]
@[simp] theorem State.abortStation_freeIndex (s : State) : s.abortStation.freeIndex = s.freeIndex := by simp only [State.abortStation, State.abortRequests_freeIndex, State.emptyTarget_freeIndex, State.dropUnbegunMark_freeIndex, State.leaveTrunk_freeIndex]

/-! ### endDraining -/

@[simp] theorem State.endDraining_pending (s : State) : s.endDraining.pending = s.pending := by simp only [State.endDraining, State.freeStale_pending, State.leaveTrunk_pending]
@[simp] theorem State.endDraining_held (s : State) : s.endDraining.held = s.held := by simp only [State.endDraining, State.freeStale_held, State.leaveTrunk_held]
@[simp] theorem State.endDraining_ctl (s : State) :
    s.endDraining.ctl =
      { s.ctl with station := .config, joinHoldoff := none } := by simp only [State.endDraining, State.freeStale_ctl, State.leaveTrunk_ctl]
@[simp] theorem State.endDraining_windows (s : State) : s.endDraining.windows = s.windows := by simp only [State.endDraining, State.freeStale_windows, State.leaveTrunk_windows]
@[simp] theorem State.endDraining_target (s : State) : s.endDraining.target = s.target := by simp only [State.endDraining, State.freeStale_target, State.leaveTrunk_target]
@[simp] theorem State.endDraining_issue (s : State) : s.endDraining.issue = s.issue := by simp only [State.endDraining, State.freeStale_issue, State.leaveTrunk_issue]
@[simp] theorem State.endDraining_completion (s : State) : s.endDraining.completion = s.completion := by simp only [State.endDraining, State.freeStale_completion, State.leaveTrunk_completion]
@[simp] theorem State.endDraining_mailbox (s : State) : s.endDraining.mailbox = s.mailbox := by simp only [State.endDraining, State.freeStale_mailbox, State.leaveTrunk_mailbox]
@[simp] theorem State.endDraining_port (s : State) : s.endDraining.port = s.port := by simp only [State.endDraining, State.freeStale_port, State.leaveTrunk_port]
@[simp] theorem State.endDraining_events (s : State) : s.endDraining.events = s.events := by simp only [State.endDraining, State.freeStale_events, State.leaveTrunk_events]
@[simp] theorem State.endDraining_host (s : State) : s.endDraining.host = s.host := by simp only [State.endDraining, State.freeStale_host, State.leaveTrunk_host]
@[simp] theorem State.endDraining_localMem (s : State) : s.endDraining.localMem = s.localMem := by simp only [State.endDraining, State.freeStale_localMem, State.leaveTrunk_localMem]
@[simp] theorem State.endDraining_freeIndex (s : State) : s.endDraining.freeIndex = s.freeIndex := by simp only [State.endDraining, State.freeStale_freeIndex, State.leaveTrunk_freeIndex]

/-! ### answer -/

@[simp] theorem State.answer_pending (s : State) (c : HostCode) (r : ResultCode) (response : List Byte) :
    (s.answer c r response).pending = s.pending := rfl
@[simp] theorem State.answer_held (s : State) (c : HostCode) (r : ResultCode) (response : List Byte) :
    (s.answer c r response).held = s.held := rfl
@[simp] theorem State.answer_ctl (s : State) (c : HostCode) (r : ResultCode) (response : List Byte) :
    (s.answer c r response).ctl = s.ctl := rfl
@[simp] theorem State.answer_windows (s : State) (c : HostCode) (r : ResultCode) (response : List Byte) :
    (s.answer c r response).windows = s.windows := rfl
@[simp] theorem State.answer_access (s : State) (c : HostCode) (r : ResultCode) (response : List Byte) :
    (s.answer c r response).access = s.access := rfl
@[simp] theorem State.answer_presence (s : State) (c : HostCode) (r : ResultCode) (response : List Byte) :
    (s.answer c r response).presence = s.presence := rfl
@[simp] theorem State.answer_tif (s : State) (c : HostCode) (r : ResultCode) (response : List Byte) :
    (s.answer c r response).tif = s.tif := rfl
@[simp] theorem State.answer_target (s : State) (c : HostCode) (r : ResultCode) (response : List Byte) :
    (s.answer c r response).target = s.target := rfl
@[simp] theorem State.answer_issue (s : State) (c : HostCode) (r : ResultCode) (response : List Byte) :
    (s.answer c r response).issue = s.issue := rfl
@[simp] theorem State.answer_ort (s : State) (c : HostCode) (r : ResultCode) (response : List Byte) :
    (s.answer c r response).ort = s.ort := rfl
@[simp] theorem State.answer_completion (s : State) (c : HostCode) (r : ResultCode) (response : List Byte) :
    (s.answer c r response).completion = s.completion := rfl
@[simp] theorem State.answer_mailbox (s : State) (c : HostCode) (r : ResultCode) (response : List Byte) :
    (s.answer c r response).mailbox = s.mailbox := rfl
@[simp] theorem State.answer_port (s : State) (c : HostCode) (r : ResultCode) (response : List Byte) :
    (s.answer c r response).port = s.port := rfl
@[simp] theorem State.answer_events (s : State) (c : HostCode) (r : ResultCode) (response : List Byte) :
    (s.answer c r response).events = s.events := rfl
@[simp] theorem State.answer_localMem (s : State) (c : HostCode) (r : ResultCode) (response : List Byte) :
    (s.answer c r response).localMem = s.localMem := rfl
@[simp] theorem State.answer_freeIndex (s : State) (c : HostCode) (r : ResultCode) (response : List Byte) :
    (s.answer c r response).freeIndex = s.freeIndex := rfl
@[simp] theorem State.answer_entry (s : State) (c : HostCode) (r : ResultCode) (response : List Byte) (g : Tag) :
    (s.answer c r response).entry g = s.entry g := rfl

/-! ### answerLoose -/

@[simp] theorem State.answerLoose_pending (s : State) (c : HostCode) (r : ResultCode) (layout : List OutByte) :
    (s.answerLoose c r layout).pending = s.pending := rfl
@[simp] theorem State.answerLoose_held (s : State) (c : HostCode) (r : ResultCode) (layout : List OutByte) :
    (s.answerLoose c r layout).held = s.held := rfl
@[simp] theorem State.answerLoose_ctl (s : State) (c : HostCode) (r : ResultCode) (layout : List OutByte) :
    (s.answerLoose c r layout).ctl = s.ctl := rfl
@[simp] theorem State.answerLoose_windows (s : State) (c : HostCode) (r : ResultCode) (layout : List OutByte) :
    (s.answerLoose c r layout).windows = s.windows := rfl
@[simp] theorem State.answerLoose_access (s : State) (c : HostCode) (r : ResultCode) (layout : List OutByte) :
    (s.answerLoose c r layout).access = s.access := rfl
@[simp] theorem State.answerLoose_presence (s : State) (c : HostCode) (r : ResultCode) (layout : List OutByte) :
    (s.answerLoose c r layout).presence = s.presence := rfl
@[simp] theorem State.answerLoose_tif (s : State) (c : HostCode) (r : ResultCode) (layout : List OutByte) :
    (s.answerLoose c r layout).tif = s.tif := rfl
@[simp] theorem State.answerLoose_target (s : State) (c : HostCode) (r : ResultCode) (layout : List OutByte) :
    (s.answerLoose c r layout).target = s.target := rfl
@[simp] theorem State.answerLoose_issue (s : State) (c : HostCode) (r : ResultCode) (layout : List OutByte) :
    (s.answerLoose c r layout).issue = s.issue := rfl
@[simp] theorem State.answerLoose_ort (s : State) (c : HostCode) (r : ResultCode) (layout : List OutByte) :
    (s.answerLoose c r layout).ort = s.ort := rfl
@[simp] theorem State.answerLoose_completion (s : State) (c : HostCode) (r : ResultCode) (layout : List OutByte) :
    (s.answerLoose c r layout).completion = s.completion := rfl
@[simp] theorem State.answerLoose_mailbox (s : State) (c : HostCode) (r : ResultCode) (layout : List OutByte) :
    (s.answerLoose c r layout).mailbox = s.mailbox := rfl
@[simp] theorem State.answerLoose_port (s : State) (c : HostCode) (r : ResultCode) (layout : List OutByte) :
    (s.answerLoose c r layout).port = s.port := rfl
@[simp] theorem State.answerLoose_events (s : State) (c : HostCode) (r : ResultCode) (layout : List OutByte) :
    (s.answerLoose c r layout).events = s.events := rfl
@[simp] theorem State.answerLoose_localMem (s : State) (c : HostCode) (r : ResultCode) (layout : List OutByte) :
    (s.answerLoose c r layout).localMem = s.localMem := rfl
@[simp] theorem State.answerLoose_entry (s : State) (c : HostCode) (r : ResultCode) (layout : List OutByte) (g : Tag) :
    (s.answerLoose c r layout).entry g = s.entry g := rfl

/-! ### accessHeard -/

@[simp] theorem State.accessHeard_pending (s : State) (src : StationNo) :
    (s.accessHeard src).pending = s.pending := rfl
@[simp] theorem State.accessHeard_held (s : State) (src : StationNo) : (s.accessHeard src).held = s.held := rfl
@[simp] theorem State.accessHeard_ctl (s : State) (src : StationNo) : (s.accessHeard src).ctl = s.ctl := rfl
@[simp] theorem State.accessHeard_windows (s : State) (src : StationNo) :
    (s.accessHeard src).windows = s.windows := rfl
@[simp] theorem State.accessHeard_access (s : State) (src : StationNo) :
    (s.accessHeard src).access =
      { s.access with rotation := src, sync := .inSync } := rfl
@[simp] theorem State.accessHeard_presence (s : State) (src : StationNo) :
    (s.accessHeard src).presence = s.presence := rfl
@[simp] theorem State.accessHeard_tif (s : State) (src : StationNo) : (s.accessHeard src).tif = s.tif := rfl
@[simp] theorem State.accessHeard_target (s : State) (src : StationNo) :
    (s.accessHeard src).target = s.target := rfl
@[simp] theorem State.accessHeard_issue (s : State) (src : StationNo) :
    (s.accessHeard src).issue = s.issue := rfl
@[simp] theorem State.accessHeard_ort (s : State) (src : StationNo) : (s.accessHeard src).ort = s.ort := rfl
@[simp] theorem State.accessHeard_completion (s : State) (src : StationNo) :
    (s.accessHeard src).completion = s.completion := rfl
@[simp] theorem State.accessHeard_mailbox (s : State) (src : StationNo) :
    (s.accessHeard src).mailbox = s.mailbox := rfl
@[simp] theorem State.accessHeard_port (s : State) (src : StationNo) : (s.accessHeard src).port = s.port := rfl
@[simp] theorem State.accessHeard_events (s : State) (src : StationNo) :
    (s.accessHeard src).events = s.events := rfl
@[simp] theorem State.accessHeard_host (s : State) (src : StationNo) : (s.accessHeard src).host = s.host := rfl
@[simp] theorem State.accessHeard_localMem (s : State) (src : StationNo) :
    (s.accessHeard src).localMem = s.localMem := rfl
@[simp] theorem State.accessHeard_freeIndex (s : State) (src : StationNo) :
    (s.accessHeard src).freeIndex = s.freeIndex := rfl
@[simp] theorem State.accessHeard_entry (s : State) (src : StationNo) (g : Tag) :
    (s.accessHeard src).entry g = s.entry g := rfl

/-! ### afterFrame -/

@[simp] theorem State.afterFrame_pending (s : State) (f : Frame) (sender : Option Origin) (mark : Mark) :
    (s.afterFrame f sender mark).pending = s.pending := rfl
@[simp] theorem State.afterFrame_held (s : State) (f : Frame) (sender : Option Origin) (mark : Mark) :
    (s.afterFrame f sender mark).held = s.held := rfl
@[simp] theorem State.afterFrame_ctl (s : State) (f : Frame) (sender : Option Origin) (mark : Mark) :
    (s.afterFrame f sender mark).ctl = s.ctl := rfl
@[simp] theorem State.afterFrame_windows (s : State) (f : Frame) (sender : Option Origin) (mark : Mark) :
    (s.afterFrame f sender mark).windows = s.windows := rfl
@[simp] theorem State.afterFrame_access (s : State) (f : Frame) (sender : Option Origin) (mark : Mark) :
    (s.afterFrame f sender mark).access = s.access := rfl
@[simp] theorem State.afterFrame_presence (s : State) (f : Frame) (sender : Option Origin) (mark : Mark) :
    (s.afterFrame f sender mark).presence = s.presence := rfl
@[simp] theorem State.afterFrame_target (s : State) (f : Frame) (sender : Option Origin) (mark : Mark) :
    (s.afterFrame f sender mark).target = s.target := rfl
@[simp] theorem State.afterFrame_issue (s : State) (f : Frame) (sender : Option Origin) (mark : Mark) :
    (s.afterFrame f sender mark).issue = s.issue := rfl
@[simp] theorem State.afterFrame_ort (s : State) (f : Frame) (sender : Option Origin) (mark : Mark) :
    (s.afterFrame f sender mark).ort = s.ort := rfl
@[simp] theorem State.afterFrame_completion (s : State) (f : Frame) (sender : Option Origin) (mark : Mark) :
    (s.afterFrame f sender mark).completion = s.completion := rfl
@[simp] theorem State.afterFrame_mailbox (s : State) (f : Frame) (sender : Option Origin) (mark : Mark) :
    (s.afterFrame f sender mark).mailbox = s.mailbox := rfl
@[simp] theorem State.afterFrame_port (s : State) (f : Frame) (sender : Option Origin) (mark : Mark) :
    (s.afterFrame f sender mark).port = s.port := rfl
@[simp] theorem State.afterFrame_events (s : State) (f : Frame) (sender : Option Origin) (mark : Mark) :
    (s.afterFrame f sender mark).events = s.events := rfl
@[simp] theorem State.afterFrame_host (s : State) (f : Frame) (sender : Option Origin) (mark : Mark) :
    (s.afterFrame f sender mark).host = s.host := rfl
@[simp] theorem State.afterFrame_localMem (s : State) (f : Frame) (sender : Option Origin) (mark : Mark) :
    (s.afterFrame f sender mark).localMem = s.localMem := rfl
@[simp] theorem State.afterFrame_freeIndex (s : State) (f : Frame) (sender : Option Origin) (mark : Mark) :
    (s.afterFrame f sender mark).freeIndex = s.freeIndex := rfl
@[simp] theorem State.afterFrame_entry (s : State) (f : Frame) (sender : Option Origin) (mark : Mark) (g : Tag) :
    (s.afterFrame f sender mark).entry g = s.entry g := rfl

/-! ### slotAhead -/

@[simp] theorem State.slotAhead_pending (s : State) (sender : Option Origin) (mark : Mark) :
    (s.slotAhead sender mark).pending = s.pending := rfl
@[simp] theorem State.slotAhead_held (s : State) (sender : Option Origin) (mark : Mark) :
    (s.slotAhead sender mark).held = s.held := rfl
@[simp] theorem State.slotAhead_ctl (s : State) (sender : Option Origin) (mark : Mark) :
    (s.slotAhead sender mark).ctl = s.ctl := rfl
@[simp] theorem State.slotAhead_windows (s : State) (sender : Option Origin) (mark : Mark) :
    (s.slotAhead sender mark).windows = s.windows := rfl
@[simp] theorem State.slotAhead_access (s : State) (sender : Option Origin) (mark : Mark) :
    (s.slotAhead sender mark).access = s.access := rfl
@[simp] theorem State.slotAhead_presence (s : State) (sender : Option Origin) (mark : Mark) :
    (s.slotAhead sender mark).presence = s.presence := rfl
@[simp] theorem State.slotAhead_tif (s : State) (sender : Option Origin) (mark : Mark) :
    (s.slotAhead sender mark).tif =
      { s.tif with
        exchange := some ⟨sender, mark, false, s.ctl.number⟩, incoming := false, trunk := .busy } := rfl
@[simp] theorem State.slotAhead_target (s : State) (sender : Option Origin) (mark : Mark) :
    (s.slotAhead sender mark).target = s.target := rfl
@[simp] theorem State.slotAhead_issue (s : State) (sender : Option Origin) (mark : Mark) :
    (s.slotAhead sender mark).issue = s.issue := rfl
@[simp] theorem State.slotAhead_ort (s : State) (sender : Option Origin) (mark : Mark) :
    (s.slotAhead sender mark).ort = s.ort := rfl
@[simp] theorem State.slotAhead_completion (s : State) (sender : Option Origin) (mark : Mark) :
    (s.slotAhead sender mark).completion = s.completion := rfl
@[simp] theorem State.slotAhead_mailbox (s : State) (sender : Option Origin) (mark : Mark) :
    (s.slotAhead sender mark).mailbox = s.mailbox := rfl
@[simp] theorem State.slotAhead_port (s : State) (sender : Option Origin) (mark : Mark) :
    (s.slotAhead sender mark).port = s.port := rfl
@[simp] theorem State.slotAhead_events (s : State) (sender : Option Origin) (mark : Mark) :
    (s.slotAhead sender mark).events = s.events := rfl
@[simp] theorem State.slotAhead_host (s : State) (sender : Option Origin) (mark : Mark) :
    (s.slotAhead sender mark).host = s.host := rfl
@[simp] theorem State.slotAhead_localMem (s : State) (sender : Option Origin) (mark : Mark) :
    (s.slotAhead sender mark).localMem = s.localMem := rfl
@[simp] theorem State.slotAhead_freeIndex (s : State) (sender : Option Origin) (mark : Mark) :
    (s.slotAhead sender mark).freeIndex = s.freeIndex := rfl
@[simp] theorem State.slotAhead_entry (s : State) (sender : Option Origin) (mark : Mark) (g : Tag) :
    (s.slotAhead sender mark).entry g = s.entry g := rfl

/-! ### recordRefusal -/

@[simp] theorem State.recordRefusal_pending (s : State) (w : WindowIdx) (reason : RefusalReason) (src : StationNo) :
    (s.recordRefusal w reason src).pending = s.pending := rfl
@[simp] theorem State.recordRefusal_held (s : State) (w : WindowIdx) (reason : RefusalReason) (src : StationNo) :
    (s.recordRefusal w reason src).held = s.held := rfl
@[simp] theorem State.recordRefusal_ctl (s : State) (w : WindowIdx) (reason : RefusalReason) (src : StationNo) :
    (s.recordRefusal w reason src).ctl = s.ctl := rfl
@[simp] theorem State.recordRefusal_windows (s : State) (w : WindowIdx) (reason : RefusalReason) (src : StationNo) :
    (s.recordRefusal w reason src).windows =
      s.windows.set w.val ((s.windows[w]).recordRefusal reason src) w.isLt := rfl
@[simp] theorem State.recordRefusal_access (s : State) (w : WindowIdx) (reason : RefusalReason) (src : StationNo) :
    (s.recordRefusal w reason src).access = s.access := rfl
@[simp] theorem State.recordRefusal_presence (s : State) (w : WindowIdx) (reason : RefusalReason) (src : StationNo) :
    (s.recordRefusal w reason src).presence = s.presence := rfl
@[simp] theorem State.recordRefusal_tif (s : State) (w : WindowIdx) (reason : RefusalReason) (src : StationNo) :
    (s.recordRefusal w reason src).tif = s.tif := rfl
@[simp] theorem State.recordRefusal_target (s : State) (w : WindowIdx) (reason : RefusalReason) (src : StationNo) :
    (s.recordRefusal w reason src).target = s.target := rfl
@[simp] theorem State.recordRefusal_issue (s : State) (w : WindowIdx) (reason : RefusalReason) (src : StationNo) :
    (s.recordRefusal w reason src).issue = s.issue := rfl
@[simp] theorem State.recordRefusal_ort (s : State) (w : WindowIdx) (reason : RefusalReason) (src : StationNo) :
    (s.recordRefusal w reason src).ort = s.ort := rfl
@[simp] theorem State.recordRefusal_completion (s : State) (w : WindowIdx) (reason : RefusalReason) (src : StationNo) :
    (s.recordRefusal w reason src).completion = s.completion := rfl
@[simp] theorem State.recordRefusal_mailbox (s : State) (w : WindowIdx) (reason : RefusalReason) (src : StationNo) :
    (s.recordRefusal w reason src).mailbox = s.mailbox := rfl
@[simp] theorem State.recordRefusal_port (s : State) (w : WindowIdx) (reason : RefusalReason) (src : StationNo) :
    (s.recordRefusal w reason src).port = s.port := rfl
@[simp] theorem State.recordRefusal_events (s : State) (w : WindowIdx) (reason : RefusalReason) (src : StationNo) :
    (s.recordRefusal w reason src).events = s.events.countRefusal := rfl
@[simp] theorem State.recordRefusal_host (s : State) (w : WindowIdx) (reason : RefusalReason) (src : StationNo) :
    (s.recordRefusal w reason src).host = s.host := rfl
@[simp] theorem State.recordRefusal_localMem (s : State) (w : WindowIdx) (reason : RefusalReason) (src : StationNo) :
    (s.recordRefusal w reason src).localMem = s.localMem := rfl
@[simp] theorem State.recordRefusal_freeIndex (s : State) (w : WindowIdx) (reason : RefusalReason) (src : StationNo) :
    (s.recordRefusal w reason src).freeIndex = s.freeIndex := rfl
@[simp] theorem State.recordRefusal_entry (s : State) (w : WindowIdx) (reason : RefusalReason) (src : StationNo) (g : Tag) :
    (s.recordRefusal w reason src).entry g = s.entry g := rfl

/-! ### recordConflict -/

@[simp] theorem State.recordConflict_pending (s : State) (w : WindowIdx) :
    (s.recordConflict w).pending = s.pending := rfl
@[simp] theorem State.recordConflict_held (s : State) (w : WindowIdx) :
    (s.recordConflict w).held = s.held := rfl
@[simp] theorem State.recordConflict_ctl (s : State) (w : WindowIdx) : (s.recordConflict w).ctl = s.ctl := rfl
@[simp] theorem State.recordConflict_windows (s : State) (w : WindowIdx) :
    (s.recordConflict w).windows =
      s.windows.set w.val (s.windows[w]).recordConflict w.isLt := rfl
@[simp] theorem State.recordConflict_access (s : State) (w : WindowIdx) :
    (s.recordConflict w).access = s.access := rfl
@[simp] theorem State.recordConflict_presence (s : State) (w : WindowIdx) :
    (s.recordConflict w).presence = s.presence := rfl
@[simp] theorem State.recordConflict_tif (s : State) (w : WindowIdx) : (s.recordConflict w).tif = s.tif := rfl
@[simp] theorem State.recordConflict_target (s : State) (w : WindowIdx) :
    (s.recordConflict w).target = s.target := rfl
@[simp] theorem State.recordConflict_issue (s : State) (w : WindowIdx) :
    (s.recordConflict w).issue = s.issue := rfl
@[simp] theorem State.recordConflict_ort (s : State) (w : WindowIdx) : (s.recordConflict w).ort = s.ort := rfl
@[simp] theorem State.recordConflict_completion (s : State) (w : WindowIdx) :
    (s.recordConflict w).completion = s.completion := rfl
@[simp] theorem State.recordConflict_mailbox (s : State) (w : WindowIdx) :
    (s.recordConflict w).mailbox = s.mailbox := rfl
@[simp] theorem State.recordConflict_port (s : State) (w : WindowIdx) :
    (s.recordConflict w).port = s.port := rfl
@[simp] theorem State.recordConflict_events (s : State) (w : WindowIdx) :
    (s.recordConflict w).events = s.events.raiseTrunk .windowConflict := rfl
@[simp] theorem State.recordConflict_host (s : State) (w : WindowIdx) :
    (s.recordConflict w).host = s.host := rfl
@[simp] theorem State.recordConflict_localMem (s : State) (w : WindowIdx) :
    (s.recordConflict w).localMem = s.localMem := rfl
@[simp] theorem State.recordConflict_freeIndex (s : State) (w : WindowIdx) :
    (s.recordConflict w).freeIndex = s.freeIndex := rfl
@[simp] theorem State.recordConflict_entry (s : State) (w : WindowIdx) (g : Tag) :
    (s.recordConflict w).entry g = s.entry g := rfl

/-! ### acceptRequest -/

@[simp] theorem State.acceptRequest_pending (s : State) (c : Claim) (dest : Dest) :
    (s.acceptRequest c dest).pending = s.pending := rfl
@[simp] theorem State.acceptRequest_held (s : State) (c : Claim) (dest : Dest) :
    (s.acceptRequest c dest).held = s.held := rfl
@[simp] theorem State.acceptRequest_ctl (s : State) (c : Claim) (dest : Dest) :
    (s.acceptRequest c dest).ctl = s.ctl := rfl
@[simp] theorem State.acceptRequest_windows (s : State) (c : Claim) (dest : Dest) :
    (s.acceptRequest c dest).windows = s.windows := rfl
@[simp] theorem State.acceptRequest_access (s : State) (c : Claim) (dest : Dest) :
    (s.acceptRequest c dest).access = s.access := rfl
@[simp] theorem State.acceptRequest_presence (s : State) (c : Claim) (dest : Dest) :
    (s.acceptRequest c dest).presence = s.presence := rfl
@[simp] theorem State.acceptRequest_tif (s : State) (c : Claim) (dest : Dest) :
    (s.acceptRequest c dest).tif = s.tif := rfl
@[simp] theorem State.acceptRequest_issue (s : State) (c : Claim) (dest : Dest) :
    (s.acceptRequest c dest).issue = s.issue := rfl
@[simp] theorem State.acceptRequest_ort (s : State) (c : Claim) (dest : Dest) :
    (s.acceptRequest c dest).ort = s.ort := rfl
@[simp] theorem State.acceptRequest_completion (s : State) (c : Claim) (dest : Dest) :
    (s.acceptRequest c dest).completion = s.completion := rfl
@[simp] theorem State.acceptRequest_port (s : State) (c : Claim) (dest : Dest) :
    (s.acceptRequest c dest).port = s.port := rfl
@[simp] theorem State.acceptRequest_events (s : State) (c : Claim) (dest : Dest) :
    (s.acceptRequest c dest).events = s.events := rfl
@[simp] theorem State.acceptRequest_host (s : State) (c : Claim) (dest : Dest) :
    (s.acceptRequest c dest).host = s.host := rfl
@[simp] theorem State.acceptRequest_localMem (s : State) (c : Claim) (dest : Dest) :
    (s.acceptRequest c dest).localMem = s.localMem := rfl
@[simp] theorem State.acceptRequest_freeIndex (s : State) (c : Claim) (dest : Dest) :
    (s.acceptRequest c dest).freeIndex = s.freeIndex := rfl
@[simp] theorem State.acceptRequest_entry (s : State) (c : Claim) (dest : Dest) (g : Tag) :
    (s.acceptRequest c dest).entry g = s.entry g := rfl

/-! ### issueInto -/

@[simp] theorem State.issueInto_pending (s : State) (t : Tag) (d : Descriptor) (rest : List Descriptor) :
    (s.issueInto t d rest).pending = s.pending := rfl
@[simp] theorem State.issueInto_held (s : State) (t : Tag) (d : Descriptor) (rest : List Descriptor) :
    (s.issueInto t d rest).held = s.held := rfl
@[simp] theorem State.issueInto_ctl (s : State) (t : Tag) (d : Descriptor) (rest : List Descriptor) :
    (s.issueInto t d rest).ctl = s.ctl := rfl
@[simp] theorem State.issueInto_windows (s : State) (t : Tag) (d : Descriptor) (rest : List Descriptor) :
    (s.issueInto t d rest).windows = s.windows := rfl
@[simp] theorem State.issueInto_access (s : State) (t : Tag) (d : Descriptor) (rest : List Descriptor) :
    (s.issueInto t d rest).access = s.access := rfl
@[simp] theorem State.issueInto_presence (s : State) (t : Tag) (d : Descriptor) (rest : List Descriptor) :
    (s.issueInto t d rest).presence = s.presence := rfl
@[simp] theorem State.issueInto_tif (s : State) (t : Tag) (d : Descriptor) (rest : List Descriptor) :
    (s.issueInto t d rest).tif = s.tif := rfl
@[simp] theorem State.issueInto_target (s : State) (t : Tag) (d : Descriptor) (rest : List Descriptor) :
    (s.issueInto t d rest).target = s.target := rfl
@[simp] theorem State.issueInto_issue (s : State) (t : Tag) (d : Descriptor) (rest : List Descriptor) :
    (s.issueInto t d rest).issue =
      { requestQueue := rest, unsent := s.issue.unsent ++ [t] } := rfl
@[simp] theorem State.issueInto_completion (s : State) (t : Tag) (d : Descriptor) (rest : List Descriptor) :
    (s.issueInto t d rest).completion = s.completion := rfl
@[simp] theorem State.issueInto_mailbox (s : State) (t : Tag) (d : Descriptor) (rest : List Descriptor) :
    (s.issueInto t d rest).mailbox = s.mailbox := rfl
@[simp] theorem State.issueInto_port (s : State) (t : Tag) (d : Descriptor) (rest : List Descriptor) :
    (s.issueInto t d rest).port = s.port := rfl
@[simp] theorem State.issueInto_events (s : State) (t : Tag) (d : Descriptor) (rest : List Descriptor) :
    (s.issueInto t d rest).events = s.events := rfl
@[simp] theorem State.issueInto_host (s : State) (t : Tag) (d : Descriptor) (rest : List Descriptor) :
    (s.issueInto t d rest).host = s.host := rfl
@[simp] theorem State.issueInto_localMem (s : State) (t : Tag) (d : Descriptor) (rest : List Descriptor) :
    (s.issueInto t d rest).localMem = s.localMem := rfl
@[simp] theorem State.issueInto_freeIndex (s : State) (t : Tag) (d : Descriptor) (rest : List Descriptor) :
    (s.issueInto t d rest).freeIndex = s.freeIndex := rfl

/-! ### startFrame -/

@[simp] theorem State.startFrame_pending (s : State) (tx : Transmission) :
    (s.startFrame tx).pending = s.pending := rfl
@[simp] theorem State.startFrame_held (s : State) (tx : Transmission) : (s.startFrame tx).held = s.held := rfl
@[simp] theorem State.startFrame_ctl (s : State) (tx : Transmission) : (s.startFrame tx).ctl = s.ctl := rfl
@[simp] theorem State.startFrame_windows (s : State) (tx : Transmission) :
    (s.startFrame tx).windows = s.windows := rfl
@[simp] theorem State.startFrame_access (s : State) (tx : Transmission) :
    (s.startFrame tx).access = s.access := rfl
@[simp] theorem State.startFrame_presence (s : State) (tx : Transmission) :
    (s.startFrame tx).presence = s.presence := rfl
@[simp] theorem State.startFrame_issue (s : State) (tx : Transmission) :
    (s.startFrame tx).issue = s.issue := rfl
@[simp] theorem State.startFrame_ort (s : State) (tx : Transmission) : (s.startFrame tx).ort = s.ort := rfl
@[simp] theorem State.startFrame_completion (s : State) (tx : Transmission) :
    (s.startFrame tx).completion = s.completion := rfl
@[simp] theorem State.startFrame_mailbox (s : State) (tx : Transmission) :
    (s.startFrame tx).mailbox = s.mailbox := rfl
@[simp] theorem State.startFrame_port (s : State) (tx : Transmission) : (s.startFrame tx).port = s.port := rfl
@[simp] theorem State.startFrame_events (s : State) (tx : Transmission) :
    (s.startFrame tx).events = s.events := rfl
@[simp] theorem State.startFrame_host (s : State) (tx : Transmission) : (s.startFrame tx).host = s.host := rfl
@[simp] theorem State.startFrame_localMem (s : State) (tx : Transmission) :
    (s.startFrame tx).localMem = s.localMem := rfl
@[simp] theorem State.startFrame_freeIndex (s : State) (tx : Transmission) :
    (s.startFrame tx).freeIndex = s.freeIndex := rfl
@[simp] theorem State.startFrame_entry (s : State) (tx : Transmission) (g : Tag) :
    (s.startFrame tx).entry g = s.entry g := rfl

/-! ### ownTransmission -/

@[simp] theorem State.ownTransmission_pending (s : State) : s.ownTransmission.pending = s.pending := rfl
@[simp] theorem State.ownTransmission_held (s : State) : s.ownTransmission.held = s.held := rfl
@[simp] theorem State.ownTransmission_ctl (s : State) : s.ownTransmission.ctl = s.ctl := rfl
@[simp] theorem State.ownTransmission_windows (s : State) : s.ownTransmission.windows = s.windows := rfl
@[simp] theorem State.ownTransmission_access (s : State) :
    s.ownTransmission.access = { s.access with collisions := 0 } := rfl
@[simp] theorem State.ownTransmission_tif (s : State) : s.ownTransmission.tif = s.tif := rfl
@[simp] theorem State.ownTransmission_target (s : State) : s.ownTransmission.target = s.target := rfl
@[simp] theorem State.ownTransmission_issue (s : State) : s.ownTransmission.issue = s.issue := rfl
@[simp] theorem State.ownTransmission_ort (s : State) : s.ownTransmission.ort = s.ort := rfl
@[simp] theorem State.ownTransmission_completion (s : State) :
    s.ownTransmission.completion = s.completion := rfl
@[simp] theorem State.ownTransmission_mailbox (s : State) : s.ownTransmission.mailbox = s.mailbox := rfl
@[simp] theorem State.ownTransmission_port (s : State) : s.ownTransmission.port = s.port := rfl
@[simp] theorem State.ownTransmission_events (s : State) : s.ownTransmission.events = s.events := rfl
@[simp] theorem State.ownTransmission_host (s : State) : s.ownTransmission.host = s.host := rfl
@[simp] theorem State.ownTransmission_localMem (s : State) : s.ownTransmission.localMem = s.localMem := rfl
@[simp] theorem State.ownTransmission_freeIndex (s : State) : s.ownTransmission.freeIndex = s.freeIndex := rfl
@[simp] theorem State.ownTransmission_entry (s : State) (g : Tag) :
    s.ownTransmission.entry g = s.entry g := rfl

/-! ### heard -/

@[simp] theorem State.heard_pending (s : State) (src : StationNo) : (s.heard src).pending = s.pending := rfl
@[simp] theorem State.heard_held (s : State) (src : StationNo) : (s.heard src).held = s.held := rfl
@[simp] theorem State.heard_ctl (s : State) (src : StationNo) : (s.heard src).ctl = s.ctl := rfl
@[simp] theorem State.heard_windows (s : State) (src : StationNo) : (s.heard src).windows = s.windows := rfl
@[simp] theorem State.heard_tif (s : State) (src : StationNo) : (s.heard src).tif = s.tif := rfl
@[simp] theorem State.heard_target (s : State) (src : StationNo) : (s.heard src).target = s.target := rfl
@[simp] theorem State.heard_issue (s : State) (src : StationNo) : (s.heard src).issue = s.issue := rfl
@[simp] theorem State.heard_ort (s : State) (src : StationNo) : (s.heard src).ort = s.ort := rfl
@[simp] theorem State.heard_completion (s : State) (src : StationNo) :
    (s.heard src).completion = s.completion := rfl
@[simp] theorem State.heard_mailbox (s : State) (src : StationNo) : (s.heard src).mailbox = s.mailbox := rfl
@[simp] theorem State.heard_port (s : State) (src : StationNo) : (s.heard src).port = s.port := rfl
@[simp] theorem State.heard_host (s : State) (src : StationNo) : (s.heard src).host = s.host := rfl
@[simp] theorem State.heard_localMem (s : State) (src : StationNo) : (s.heard src).localMem = s.localMem := rfl
@[simp] theorem State.heard_freeIndex (s : State) (src : StationNo) :
    (s.heard src).freeIndex = s.freeIndex := rfl
@[simp] theorem State.heard_entry (s : State) (src : StationNo) (g : Tag) :
    (s.heard src).entry g = s.entry g := rfl

/-! ### The ORT entries after an operation -/

theorem State.setEntry_entry (s : State) (t g : Tag) (e : OrtEntry) :
    (s.setEntry t e).entry g = if g = t then e else s.entry g := by
  by_cases h : g = t
  · subst h; simp [State.entry]
  · have h' : t.val ≠ g.val := fun hv => h (Fin.ext hv.symm)
    simp [State.entry, h, h']

theorem State.enterDone_entry (s : State) (t g : Tag) (e : OrtEntry) (st : Status) :
    (s.enterDone t e st).entry g = if g = t then e.finish st else s.entry g := by
  by_cases h : g = t
  · subst h; simp [State.entry]
  · have h' : t.val ≠ g.val := fun hv => h (Fin.ext hv.symm)
    simp [State.entry, h, h']

theorem State.freeEntry_entry (s : State) (t g : Tag) :
    (s.freeEntry t).entry g = if g = t then OrtEntry.blank else s.entry g := by
  by_cases h : g = t
  · subst h; simp [State.entry, State.freeEntry]
  · have h' : t.val ≠ g.val := fun hv => h (Fin.ext hv.symm)
    simp [State.entry, State.freeEntry, h, h']

theorem State.issueInto_entry (s : State) (t g : Tag) (d : Descriptor) (rest : List Descriptor) :
    (s.issueInto t d rest).entry g = if g = t then issuedEntry d else s.entry g := by
  by_cases h : g = t
  · subst h; simp [State.entry, State.issueInto]
  · have h' : t.val ≠ g.val := fun hv => h (Fin.ext hv.symm)
    simp [State.entry, State.issueInto, h, h']

@[simp] theorem State.abortRequests_entry (s : State) (g : Tag) :
    s.abortRequests.entry g = (s.entry g).abort (s.granted g) := by
  simp [State.entry, State.abortRequests]

@[simp] theorem State.freeStale_entry (s : State) (g : Tag) :
    s.freeStale.entry g = if (s.entry g).isStale then OrtEntry.blank else s.entry g := by
  simp [State.entry, State.freeStale]

@[simp] theorem State.ortStationLost_entry (s : State) (st : StationNo) (g : Tag) :
    (s.ortStationLost st).entry g =
      if (s.entry g).awaits st then (s.entry g).finish .targetLost else s.entry g := by
  simp [State.entry, State.ortStationLost]

/-! ### What the shared operations can answer -/

/-- R28: on the trunk means ONLINE or DRAINING. -/
theorem State.onTrunk_iff (s : State) :
    s.onTrunk = true ↔ s.ctl.station = .online ∨ s.ctl.station = .draining := by
  simp [State.onTrunk]

/-- R23: the receiver is on in JOINING, ONLINE, DRAINING and DETACHED. -/
theorem State.receiverOn_iff (s : State) :
    s.receiverOn = true ↔ s.ctl.station ∈ [StationState.joining, .online, .draining, .detached] := by
  simp [State.receiverOn, State.onTrunk, or_assoc]

/-- R114: an entry after ABORT is the entry as it was, the entry with the ending mark, the entry ended, or
blank. -/
theorem OrtEntry.abort_cases (e : OrtEntry) (b : Bool) :
    e.abort b = e ∨ e.abort b = { e with endingMark := true } ∨ e.abort b = e.finish .aborted
      ∨ e.abort b = OrtEntry.blank := by
  unfold OrtEntry.abort
  split <;> simp
  all_goals cases b <;> simp

/-- R65: a response is appended, or nothing changes. -/
theorem State.respond_cases (s : State) (e : ServiceEntry) (status : CplStatus) (swapped : Bool)
    (data : List Byte) :
    (∃ t k, e.request.body.tag = some t ∧ e.reservation = .live k ∧
      s.respond e status swapped data =
        { s with
          target :=
            { s.target with
              responses :=
                s.target.responses ++ [⟨e.request.source, t, status, swapped, data, k, 0, false⟩] } }) ∨
    ((e.request.body.tag = none ∨ ∀ k, e.reservation ≠ .live k) ∧
      s.respond e status swapped data = s) := by
  unfold State.respond
  split
  · rename_i t k ht hk
    exact .inl ⟨t, k, ht, hk, rfl⟩
  · rename_i h
    refine .inr ⟨?_, rfl⟩
    cases ht : e.request.body.tag with
    | none => exact .inl rfl
    | some t => exact .inr fun k hk => h t k ht hk

/-- R48, R40: the Presence Monitor and then the Access Unit hear a clean frame. -/
theorem State.presenceHeard_accessHeard (s : State) (src : StationNo) :
    (s.presenceHeard src).accessHeard src = s.heard src := by
  unfold State.presenceHeard
  split <;> rename_i h <;> simp [State.accessHeard, State.heard, h, presenceTicks]

/-- R48: a frame from a station whose entry is SELF changes nothing in the table. -/
theorem State.presenceHeard_self {s : State} {src : StationNo} (h : s.presence.table[src] = .self) :
    s.presenceHeard src = s := by
  unfold State.presenceHeard
  split <;> simp_all

/-- R22: a frame ends while the station has part in no slot. -/
@[simp] theorem Tif.frameEnded_uninvolved {t : Tif} (h : t.uninvolved = true) (slot : Option Exchange) :
    t.frameEnded slot = { t with exchange := slot, incoming := false, trunk := .busy } := by
  simp [Tif.frameEnded, h]

/-- Log entry 10: a frame with no slot, or with one in which the station drives no CORRUPT mark, ends while the
station has part in another slot. -/
theorem Tif.frameEnded_involved {t : Tif} (h : t.uninvolved = false) (slot : Option Exchange)
    (hs : ∀ e, slot = some e → e.mark ≠ .corrupt) :
    t.frameEnded slot = { t with incoming := false, trunk := .busy } := by
  cases slot <;> simp_all [Tif.frameEnded]

/-- R22: whatever the slots, no frame is incoming when one has ended, the trunk is busy, and an own frame on the
wire stays there. -/
theorem Tif.frameEnded_fields (t : Tif) (slot : Option Exchange) :
    (t.frameEnded slot).tx = t.tx ∧ (t.frameEnded slot).incoming = false
      ∧ (t.frameEnded slot).trunk = .busy := by
  unfold Tif.frameEnded
  split <;> simp

/-- Nothing but its own frame is under way in a Trunk Interface that is busy with it. -/
@[simp] theorem Tif.busyWith_uninvolved (tx : Option Transmission) : (Tif.busyWith tx).uninvolved = true := by
  simp [Tif.uninvolved, Tif.busyWith]

/-- R180: the quiet Trunk Interface has part in no slot, and nothing on the wire. -/
theorem State.tifQuiet_iff (s : State) :
    s.tifQuiet = true ↔ s.tif.tx = none ∧ s.tif.uninvolved = true := by
  simp [State.tifQuiet]

/-- R23: the receiver takes a frame that ends. -/
theorem State.hearsFrame_iff (s : State) :
    s.hearsFrame = true ↔ s.receiverOn = true ∧ s.tif.tx = none ∧ s.tif.incoming = true := by
  simp [State.hearsFrame, and_assoc]

/-- R22: a request or completion frame is followed by a slot. -/
theorem State.afterFrame_slot (s : State) (f : Frame) (sender : Option Origin) (mark : Mark)
    (hq : s.tif.uninvolved = true) (h : ∀ n, f ≠ .beacon n) :
    s.afterFrame f sender mark = s.slotAhead sender mark := by
  cases f
  case beacon n => exact absurd rfl (h n)
  all_goals simp [State.afterFrame, State.slotAhead, hq]

/-! ### What the trunk side leaves alone in the Trunk Interface -/

@[simp] theorem State.presenceHeard_tif (s : State) (src : StationNo) : (s.presenceHeard src).tif = s.tif := by
  unfold State.presenceHeard
  split <;> rfl

@[simp] theorem State.presenceHeard_ctl (s : State) (src : StationNo) : (s.presenceHeard src).ctl = s.ctl := by
  unfold State.presenceHeard
  split <;> rfl

/-- R56: the decision is no part of the Trunk Interface; `afterFrame` puts its marks there. -/
@[simp] theorem State.decideClaim_tif (s : State) (f : ReqFrame) : (s.decideClaim f).1.tif = s.tif := by
  unfold State.decideClaim
  split
  · rfl
  · rfl
  · split <;> rfl

@[simp] theorem State.decideClaim_ctl (s : State) (f : ReqFrame) : (s.decideClaim f).1.ctl = s.ctl := by
  unfold State.decideClaim
  split
  · rfl
  · rfl
  · split <;> rfl

@[simp] theorem State.matchedCompletion_tif (s : State) (f : CplFrame) (e : OrtEntry) :
    (s.matchedCompletion f e).tif = s.tif := by
  unfold State.matchedCompletion
  split
  · rfl
  · split <;> rfl

@[simp] theorem State.ortCompletion_tif (s : State) (f : CplFrame) : (s.ortCompletion f).tif = s.tif := by
  unfold State.ortCompletion
  dsimp only
  repeat' split
  all_goals simp

@[simp] theorem State.readBack_tif (s : State) (mark : Mark) (out : SlotOutcome) :
    (s.readBack mark out).tif = s.tif := by
  unfold State.readBack
  repeat' split
  all_goals rfl

@[simp] theorem State.requestOutcome_tif (s : State) (t : Tag) (out : SlotOutcome) :
    (s.requestOutcome t out).tif = s.tif := by
  unfold State.requestOutcome
  dsimp only
  repeat' split
  all_goals rfl

@[simp] theorem State.completionOutcome_tif (s : State) (out : CompletionOutcome) :
    (s.completionOutcome out).tif = s.tif := by
  unfold State.completionOutcome
  repeat' split
  all_goals rfl

@[simp] theorem State.handOutcome_tif (s : State) (sender : Option Origin) (out : SlotOutcome) :
    (s.handOutcome sender out).tif = s.tif := by
  unfold State.handOutcome
  split <;> simp

/-- R29: the end of a slot with no CORRUPT mark waiting behind it ends the exchange. -/
@[simp] theorem Tif.slotEnded_last {t : Tif} (h : t.corruptNext = false) (number : StationNo) :
    t.slotEnded number = { t with exchange := none } := by
  simp [Tif.slotEnded, h]

end Sys2Proof.Machine
end

