-- ==== Sys2Proof/Tests/Slice0.lean ====
section
/-! SUPPORT. Tests: the manual's worked examples, one step each, on small states; the checks of WellFormed; and
for each statement with hypotheses a concrete state that meets them. -/

namespace Sys2Proof.Tests

open Sys2Proof Sys2Proof.Machine

/-! ### Small states -/

/-- The outcome is a next state of which `p` holds. -/
def nextHas (o : Host.Outcome State Fault Refusal) (p : State → Bool) : Bool :=
  match o with
  | .next t => p t
  | .fault _ => false
  | .refused _ => false

/-- A station with number 0 in this state, with nothing under way; a join holdoff has no tick remaining. -/
def inState (st : StationState) : State :=
  { State.reset with
    ctl :=
      { State.reset.ctl with
        station := st, joinHoldoff := if st = .joining then some 0 else none }
    presence :=
      { table := presenceCleared 0
        beaconTimer := if st = .online ∨ st = .draining then .running 256 else .stopped
        beaconQueued := false } }

/-- The same station with HSEL# low and no byte completed. -/
def inFrame (st : StationState) : State :=
  { inState st with
    host := { selected := true, decoder := .command, taken := none, reply := [], clocked := 0 } }

/-- The station while another station's frame passes, its start delimiter seen. -/
def whileFrame (s : State) : State := { s with tif := { s.tif with incoming := true } }

/-- One ORT entry of this state, issued from a READ of 4 bytes. -/
def readEntry (e : EntryState) : OrtEntry :=
  { OrtEntry.blank with
    state := e, op := .read, length := 4, target := match e with
      | .awaiting _ => some 6
      | .storing => some 6
      | _ => none }

/-- The station with this entry at tag 2, alone in the table. -/
def withEntry (st : StationState) (e : OrtEntry) : State :=
  { inState st with
    ort := { entries := (Vector.replicate 16 OrtEntry.blank).set 2 e, issueOrder := [2] }
    issue := { requestQueue := [], unsent := if e.unsentState then [2] else [] }
    completion := { queue := [], retire := if e.state = .done then [2] else [] } }

/-- A request frame from station 3. -/
def frameOf (body : ReqBody) : ReqFrame := { source := 3, address := 0x00100000, body := body }

/-- An operation of the Target Engine under way on the port. -/
def targetOp (kind : MemKind) (address length completed : Nat) : MemOp :=
  { requester := .target, kind := kind, address := address, length := length, completed := completed
    gathered := [], wait := 8, discard := false }

/-! ### WellFormed refuses what the manual does not admit -/

theorem test_wf_request_empty :
    Instr.wf (.requestFrameReceived (frameOf (.read 0 0))) = false := by decide

theorem test_wf_request_long :
    Instr.wf (.requestFrameReceived (frameOf (.write (List.replicate 65 0)))) = false := by decide

theorem test_wf_completion_long :
    Instr.wf (.completionFrameReceived ⟨3, 0, 2, .ok, false, List.replicate 65 0⟩) = false := by decide

theorem test_wf_configRead_selector : Instr.wf (.configRead (.noItem 4)) = false := by decide

theorem test_wf_configWrite_selector : Instr.wf (.configWrite (.noItem 1)) = false := by decide

theorem test_wf_image_long :
    Instr.wf (.endOfLoading (some (List.replicate 113 0)) 0) = false := by decide

theorem test_wf_request_whole :
    Instr.wf (.requestFrameReceived (frameOf (.write (List.replicate 64 0)))) = true := by decide

/-! ### Decoding: the table gives no row bits -/

theorem test_decode_nothing : decodeTableWord 16 0x0001 = none := by decide

/-! ### Windows (section 1.8) -/

/-- Station 5's window table. -/
def windows18 : Vector Window 8 :=
  ((((Vector.replicate 8 (Window.fresh WindowConfig.default)).set 0
    (Window.fresh ⟨true, .memory, 0x00100000, 4096, 0, true, true, 0x000E⟩)).set 1
    (Window.fresh ⟨true, .memory, 0x00101000, 256, 4096, true, false, 0xFFFF⟩)).set 2
    (Window.fresh ⟨true, .notify, 0x00108000, 1024, 0, false, true, 0x0004⟩))

theorem test_window_table_passes : tableFault windows18 = none := by decide

theorem test_lookup_a : lookup windows18 ⟨2, 0x00100010, .read 0 32⟩ = .permitted 0 (.memory 16) := by decide

theorem test_lookup_b :
    lookup windows18 ⟨7, 0x00100010, .write [0, 0, 0, 0]⟩ = .refuse 0 .initiator := by decide

theorem test_lookup_c : lookup windows18 ⟨1, 0x00100FF0, .read 0 32⟩ = .refuse 0 .range := by decide

theorem test_lookup_d :
    lookup windows18 ⟨3, 0x00101000, .write [0, 0, 0, 0, 0, 0, 0, 0]⟩ = .refuse 1 .rights := by decide

theorem test_lookup_e :
    lookup windows18 ⟨2, 0x00108010, .writeAcked 1 [0, 0, 0, 0]⟩ = .permitted 2 (.notify 4) := by decide

theorem test_lookup_f :
    lookup windows18 ⟨2, 0x00108012, .write [0, 0, 0, 0]⟩ = .refuse 2 .notifyForm := by decide

theorem test_lookup_g : lookup windows18 ⟨2, 0x00108000, .read 0 4⟩ = .refuse 2 .rights := by decide

theorem test_lookup_h :
    lookup windows18 ⟨4, 0x00200000, .swap 0 #v[0, 0, 0, 0] #v[0, 0, 0, 0]⟩ = .noMatch := by decide

/-! ### Slots (section 2.8) -/

theorem test_slot_accept : (SlotCells.claim 6 0).resolve = .accept 6 := by decide

theorem test_slot_busy : (SlotCells.claim 6 1).resolve = .busy 6 := by decide

theorem test_slot_corrupt :
    ((SlotCells.claim 6 0).combine (Mark.cells 12 .corrupt)).resolve = .corrupt := by decide

theorem test_slot_conflict :
    ((SlotCells.claim 6 0).combine (SlotCells.claim 12 2)).resolve = .conflict := by decide

theorem test_slot_silent : SlotCells.released.resolve = .silent := by decide

/-! ### The check (R184): this generator and preset give 29B1h over the ASCII digits 1 to 9, the published check
value of the CRC -/

set_option maxRecDepth 8000 in
theorem test_check_digits : crc16 [0x31, 0x32, 0x33, 0x34, 0x35, 0x36, 0x37, 0x38, 0x39] = 0x29B1 := by decide

theorem test_beacon_first_byte : (encodeFrame (.beacon 6)).head? = some 0x66 := by decide

/-! ### Submitting (section 5.8) -/

/-- A descriptor with this op code, trunk address, length and local address. -/
def descriptor (op : Byte) (address : BitVec 32) (length : Byte) (localAddress : BitVec 24) : RawDescriptor :=
  { flags := op, address := address, length := length, localAddress := localAddress, cookie := 0
    compareValue := #v[0, 0, 0, 0], newValue := #v[0, 0, 0, 0] }

/-- A descriptor that waits. -/
def waiting (op : Op) (fence : Bool) : Descriptor :=
  { op := op, fence := fence, urgent := false, address := 0x00100000, length := 8, localAddress := 0, cookie := 0
    compareValue := none, newValue := none }

/-- CONFIG with this many descriptors in the request queue, in a host frame. -/
def queued (n : Nat) : State :=
  { inFrame .config with issue := { requestQueue := List.replicate n (waiting .read false), unsent := [] } }

/-- The SUBMIT is answered so, and leaves this many descriptors. -/
def submitGives (n : Nat) (d : RawDescriptor) (r : ResultCode) (m : Nat) : Bool :=
  nextHas (exec (.submit d) (queued n)) (fun t =>
    decide (t.host.taken = some (.submit, r)) && decide (t.issue.requestQueue.length = m))

theorem test_submit_s1 : submitGives 30 (descriptor 3 0x00100010 32 512) .done 31 = true := by decide

theorem test_submit_s2 : submitGives 31 (descriptor 4 0x00100012 4 0) .badDescriptor 31 = true := by decide

theorem test_submit_s3 : submitGives 31 (descriptor 1 0xFFFFFFF0 32 0) .badDescriptor 31 = true := by decide

theorem test_submit_s4 : submitGives 31 (descriptor 1 0x00100000 64 262080) .done 32 = true := by decide

theorem test_submit_s5 : submitGives 32 (descriptor 3 0x00100000 0 0) .badDescriptor 32 = true := by decide

theorem test_submit_s6 : submitGives 32 (descriptor 3 0x00100000 8 0) .full 32 = true := by decide

/-! ### Issue (section 5.9) -/

/-- Tag 0 AWAITING a SWAP at station 6, tag 1 STALE, and these descriptors waiting. -/
def beforeIssue (ds : List Descriptor) : State :=
  { inState .online with
    ort :=
      { entries :=
          ((Vector.replicate 16 OrtEntry.blank).set 0
            { OrtEntry.blank with state := .awaiting 900, op := .swap, target := some 6 }).set 1
            { OrtEntry.blank with state := .stale 900 }
        issueOrder := [1, 0] }
    issue := { requestQueue := ds, unsent := [] } }

theorem test_issue_lowest_free :
    nextHas (exec .issue (beforeIssue [waiting .writeAcked false])) (fun t =>
      decide ((t.entry 2).state = .fetching) && decide (t.issue.unsent = [2])) = true := by decide

theorem test_issue_fence_waits :
    nextHas (exec .issue (beforeIssue [waiting .write true])) (fun t =>
      decide (t.issue.requestQueue.length = 1) && decide ((t.entry 2).state = .free)) = true := by decide

/-! ### ABORT (section 6.9) -/

/-- The station before ABORT, its host having completed the command byte's frame start. -/
def beforeAbort : State :=
  { inFrame .online with
    ort :=
      { entries :=
          ((((((Vector.replicate 16 OrtEntry.blank).set 6
            { OrtEntry.blank with state := .done, result := some .ok }).set 0
            { OrtEntry.blank with state := .awaiting 9, op := .read, target := some 2 }).set 1
            { OrtEntry.blank with state := .storing, op := .read, target := some 4 }).set 2
            { OrtEntry.blank with state := .hold 5, op := .swap, busyRetries := 2 }).set 3
            { OrtEntry.blank with state := .ready, op := .write }).set 5
            { OrtEntry.blank with state := .stale 7 }
        issueOrder := [6, 0, 1, 2, 3, 5] }
    issue := { requestQueue := [], unsent := [2, 3] }
    completion := { queue := [], retire := [6] }
    port := some { targetOp (.write [0]) 0 1 0 with requester := .store 1 } }

theorem test_abort_retires_in_issue_order :
    nextHas (exec .abort beforeAbort) (fun t =>
      decide (t.completion.retire = [6, 0, 2, 3]) && decide (t.issue.unsent = [])
        && decide (t.ctl.station = .config)) = true := by decide

theorem test_abort_marks_the_store_in_flight :
    nextHas (exec .abort beforeAbort) (fun t =>
      decide ((t.entry 1).state = .storing) && (t.entry 1).endingMark && decide ((t.entry 5).state = .free)
        && decide ((t.entry 0).target = some 2)) = true := by decide

/-! ### Trunk access (section 3.8) -/

theorem test_positions : position 3 6 = 12 ∧ position 6 6 = 15 ∧ position 12 6 = 5 := by decide

/-- Station 12, IN_SYNC behind station 6, with a completion for station 3 and a READY entry. -/
def station12 : State :=
  { withEntry .online { readEntry .ready with op := .write } with
    ctl := { (inState .online).ctl with number := 12 }
    access := { rotation := 6, sync := .inSync, collisions := 0 }
    tif := { Tif.busyWith none with trunk := .idle 5 }
    target :=
      { service := [], responses := [⟨3, 0, .ok, false, [], 400, 0, false⟩], nonPosted := 1 } }

theorem test_completion_in_slot_5 :
    nextHas (exec (.contentionSlot 5) station12) (fun t =>
      decide (t.tif.tx.map (fun x => x.origin) = some (.completion 3))) = true := by decide

/-- R38: with a completion waiting, the class B slot is not reached in that round. -/
theorem test_no_slot_21_before_slot_5 :
    nextHas (exec (.contentionSlot 21) station12) (fun t => decide (t = station12)) = true := by decide

/-- Station 12 in slot 21 of a round in which no completion was waiting. -/
def station12InSlot21 : State :=
  { station12 with
    tif := { Tif.busyWith none with trunk := .idle 21 }
    target := { service := [], responses := [], nonPosted := 0 } }

theorem test_request_in_slot_21 :
    nextHas (exec (.contentionSlot 21) station12InSlot21) (fun t =>
      decide (t.tif.tx.map (fun x => x.origin) = some (.request 2))) = true := by decide

/-- R37: no round opens within a round; one does when slot 47 has ended. -/
theorem test_round_after_slot_47 :
    nextHas (exec .roundOpen station12) (fun t => decide (t = station12)) = true
      ∧ nextHas (exec .roundOpen { station12 with tif := { Tif.busyWith none with trunk := .idle 48 } }) (fun t =>
        decide (t.tif.trunk = .idle 0)) = true := by decide

theorem test_collision_keeps_the_frame_queued :
    nextHas (exec .collision
        { station12 with tif := Tif.busyWith (some ⟨.beacon 12, .beacon⟩) })
      (fun t => decide (t.access.sync = .lost) && decide (t.access.collisions = 1)
        && decide (t.events.counters.collisions = 1) && t.events.trunkCauses.syncLost) = true := by decide

/-! ### Presence (section 3.10) -/

theorem test_presence_timeout_loses_the_target :
    nextHas (exec (.presenceTimeout 6)
        { withEntry .online (readEntry (.awaiting 300)) with
          presence := { (inState .online).presence with table := (presenceCleared 0).set 6 (.present 0) } })
      (fun t => decide ((t.entry 2).result = some .targetLost) && decide (t.completion.retire = [2])
        && decide (t.presence.table[6] = .absent)) = true := by decide

theorem test_beacon_heard :
    nextHas (exec (.beaconReceived 4) (whileFrame (inState .joining))) (fun t =>
      decide (t.access.rotation = 4) && decide (t.access.sync = .inSync)
        && decide (t.presence.table[4] = .present 768) && t.events.trunkCauses.presenceChange) = true := by decide

/-! ### Capacity at the claim (section 4.7) -/

/-- Station 6's windows: all of window 2 is notify words. -/
def station6 (reservations records reserved : Nat) : State :=
  { inState .online with
    ctl := { (inState .online).ctl with number := 6 }
    windows := windows18
    target := { service := [], responses := [], nonPosted := reservations }
    mailbox := { records := List.replicate records ⟨2, 2, 0, [0, 0, 0, 0], false⟩, reserved := reserved } }

theorem test_claim_busy_at_eight_reservations :
    nextHas (exec (.requestFrameReceived ⟨2, 0x00100000, .read 4 16⟩) (whileFrame (station6 8 15 0)))
      (fun t =>
      decide (t.events.counters.busyGiven = 1)) = true := by decide

theorem test_claim_notify_takes_the_last_place :
    nextHas (exec (.requestFrameReceived ⟨2, 0x00108000, .write [0, 0, 0, 0]⟩)
        (whileFrame (station6 8 15 0))) (fun t =>
      decide (t.events.counters.busyGiven = 0) && decide (t.tif.exchange ≠ none)) = true := by decide

theorem test_claim_notify_busy_when_held :
    nextHas (exec (.requestFrameReceived ⟨2, 0x00108000, .write [0, 0, 0, 0]⟩)
        (whileFrame (station6 8 15 1))) (fun t =>
      decide (t.events.counters.busyGiven = 1)) = true := by decide

/-! ### The memory port (sections 8.10, 8.11) -/

/-- The WRITE_ACKED of 7 bytes at local address 1001, this many of its accesses made. -/
def write1001 (completed : Nat) : State :=
  { inState .online with
    target :=
      { service :=
          [{ request := ⟨2, 0x00100000, .writeAcked 1 [10, 11, 12, 13, 14, 15, 16]⟩, window := 0
             dest := .memory 1001, reservation := .live 400, notifyHold := false }]
        responses := [], nonPosted := 1 }
    port := some (targetOp (.write [10, 11, 12, 13, 14, 15, 16]) 1001 7 completed) }

theorem test_access_1_writes_the_high_lane :
    nextHas (exec (.wordAccessComplete none) (write1001 0)) (fun t =>
      decide (t.localMem = [⟨1001, 10⟩])) = true := by decide

theorem test_access_3_times_out :
    nextHas (exec .waitTimerExpiry (write1001 2).idle) (fun t =>
      decide (t.events.counters.memoryFaults = 1) && decide (t.port = none)
        && decide (t.target.responses.map (fun r => r.status) = [.memoryFault])) = true := by decide

/-- R133: MREADY is taken first: the access completes, and its timer does not fault the next one. -/
theorem test_expiry_behind_mready_does_nothing :
    nextHas (exec (.wordAccessComplete none) (write1001 0).idle) (fun t =>
      nextHas (exec .waitTimerExpiry t) (fun u => decide (u.port = t.port) && decide (u.port ≠ none)
        && decide (u.events.counters.memoryFaults = 0))) = true := by decide

/-- R133: the expiry is taken first: MREADY arriving afterwards is ignored. -/
theorem test_mready_behind_expiry_does_nothing :
    nextHas (exec .waitTimerExpiry (write1001 0).idle) (fun t =>
      nextHas (exec (.wordAccessComplete none) t) (fun u => decide (u.localMem = []) && decide (u.port = none)
        && decide (u.events.counters.memoryFaults = 1))) = true := by
  decide

theorem test_arbiter_stores_in_issue_order :
    nextHas (exec .memoryGrant
        { inState .online with
          ort :=
            { entries :=
                (((Vector.replicate 16 OrtEntry.blank).set 4 (readEntry .fetching)).set 6
                  (readEntry .storing)).set 1 (readEntry .storing)
              issueOrder := [4, 6, 1] } })
      (fun t => decide (t.port.map (fun op => op.requester) = some (.store 6))) = true := by decide

/-! ### Frames cut short (section 10.9) -/

/-- A completion record. -/
def someRecord : CompletionRecord :=
  { cookie := 7, op := .read, status := .ok, target := some 6, oldValue := none, swapped := none
    busyRetries := 0, corruptResends := 0, urgent := false }

/-- TAKE_COMPLETION answered DONE with a result byte and ten record bytes, this many of them clocked out. -/
def taking (clocked : Nat) : State :=
  { inFrame .online with
    completion := { queue := [someRecord, someRecord], retire := [] }
    host :=
      { selected := true, decoder := .response, taken := some (.takeCompletion, .done)
        reply := 0x00 :: List.replicate 10 0x11, clocked := clocked } }

theorem test_frame_1_keeps_the_record :
    nextHas (exec .hostFrameEnd (taking 10)) (fun t => decide (t.completion.queue.length = 2)) = true := by decide

theorem test_frame_2_removes_the_record :
    nextHas (exec .hostFrameEnd (taking 12)) (fun t => decide (t.completion.queue.length = 1)) = true := by decide

theorem test_frame_3_counts_an_error :
    nextHas (exec .hostFrameEnd
        { inFrame .online with host := { (inFrame .online).host with decoder := .operands .submit [1] } })
      (fun t => decide (t.events.counters.hostFrameErrors = 1)) = true := by decide

/-! ### Witnesses: resets, loading, host frames -/

theorem witness_StepRunsTheFrontCommand :
    ({ inState .online with pending := [.status, .leave] } : State).pending = .status :: [.leave] := rfl

theorem witness_IdleStepIsOneTick :
    (inState .online).pending = [] ∧ (inState .online).held = false ∧ (inState .online).port = none
      ∧ ({ State.reset with held := true } : State).held = true ∧ State.reset.port = none
      ∧ (write1001 0).pending = [] ∧ (write1001 0).port.map (fun op => op.wait) = some 8 := by decide

/-- A station held by RESET# with a free value drawn. -/
def heldState : State := { State.reset with held := true, freeIndex := 3 }

theorem heldState_law : StationLaw heldState where
  held := fun _ => rfl
  self := fun h => absurd rfl h
  deaf := fun h => by cases h
  table := fun h => absurd rfl h
  waitLimit := by decide
  holdoff := by decide
  beacon := by decide
  queued := by decide
  collisions := by decide
  queues := by decide
  threshold := by decide
  pulse := by decide
  masked := by decide
  quiet := by decide
  wire := by decide
  incoming := by decide
  corruptNext := by decide
  round := fun _ h => by cases h
  memory := by decide

theorem witness_PinResetHoldsTheStation :
    Memory.wf (write1001 3).localMem = true
      ∧ (∃ op, (write1001 3).port = some op ∧ op.writing = true ∧ (1007, 16) ∈ op.cells)
      ∧ (∀ op, (inState .online).port = some op → op.writing = false) :=
  ⟨by decide, ⟨_, rfl, by decide, by decide⟩, fun _ h => by cases h⟩

theorem witness_HeldStationIgnoresCommands :
    StationLaw heldState ∧ heldState.held = true ∧ (Instr.leave ≠ .pinReset ∧ Instr.leave ≠ .resetRelease
      ∧ Instr.leave ≠ .hostFrameStart ∧ Instr.leave ≠ .hostFrameEnd) :=
  ⟨heldState_law, rfl, by decide⟩

/-- An image with this byte 1, this CT and this last byte; every window disabled. -/
def image (first ctHigh last : Byte) : List Byte :=
  [0xA6, first, ctHigh, 0, 8, 0, 1] ++ List.replicate 104 0 ++ [last]

set_option maxRecDepth 8000 in
theorem witness_LoadingWithoutAnImage :
    State.reset.held = false ∧ State.reset.ctl.station = .loading ∧ loadResultOf none ≠ .loaded
      ∧ loadResultOf (some []) ≠ .loaded ∧ loadResultOf (some [0xA6]) = .corrupt
      ∧ ([] : List Byte).getD 0 0xFF ≠ 0xA6
      ∧ ((List.range 112).map (fun i => (([0xA6] : List Byte).getD i 0xFF).toNat)).sum % 256 ≠ 0
      ∧ ((List.range 112).map (fun i => ((image 0 4 77).getD i 0xFF).toNat)).sum % 256 = 0 := by decide

set_option maxRecDepth 8000 in
theorem witness_LoadingALoadedImage :
    loadResultOf (some (image 0 4 77)) = .loaded ∧ loadResultOf (some (image 0x40 4 13)) = .loaded
      ∧ loadResultOf (some (image 0x40 0 17)) = .loaded
      ∧ ((image 0 4 77).getD 1 0xFF).getLsbD 6 = false ∧ ((image 0x40 4 13).getD 1 0xFF).getLsbD 6 = true
      ∧ State.reset.events.mask = ⟨true, true, true, true⟩ := by
  decide

theorem witness_LoadingALoadedImage_joins :
    nextHas (exec (.endOfLoading (some (image 0x40 4 13)) 3) State.reset) (fun t =>
      decide (joinFault t.windows t.ctl.ct = none) && decide (t.ctl.station = .joining)) = true := by
  decide +kernel

set_option maxRecDepth 8000 in
theorem witness_LoadingALoadedImage_joinInvalid :
    nextHas (exec (.endOfLoading (some (image 0x40 0 17)) 3) State.reset) (fun t =>
      decide (joinFault t.windows t.ctl.ct = some (.ctRange, none)) && decide (t.ctl.station = .config)) = true := by
  decide

/-- The station with its decoder in this state, HSEL# low. -/
def decoding (st : StationState) (d : Decoder) : State :=
  { inFrame st with host := { (inFrame st).host with decoder := d } }

theorem witness_HostFrameEdges :
    (inState .online).host.selected = false ∧ (decoding .online .idle).host.selected = true
      ∧ (decoding .online .idle).host.decoder = .idle ∧ (decoding .online .command).host.decoder = .command
      ∧ (decoding .online .discard).host.decoder = .discard
      ∧ (decoding .online (.operands .submit [])).host.decoder = .operands .submit [] := by decide

theorem witness_FrameEndRemovesATakenRecord :
    (taking 11).host.selected = true ∧ (taking 11).host.decoder = .response
      ∧ (taking 11).host.taken = some (.takeCompletion, .done)
      ∧ (taking 11).host.reply.length ≤ (taking 11).host.clocked
      ∧ ¬ (taking 10).host.reply.length ≤ (taking 10).host.clocked
      ∧ ({ (taking 8).host with taken := some (.takeNotify, .done) } : HostPort).taken
        = some (.takeNotify, .done)
      ∧ (({ (taking 8).host with taken := some (.status, .done) } : HostPort).taken
          ≠ some (.takeCompletion, .done)) := by decide

/-- At the start of a frame every command can be the one taken. -/
theorem inFrame_openFor (st : StationState) (c : HostCode) (ops : List Byte) :
    (inFrame st).openFor c ops :=
  ⟨rfl, .inl rfl⟩

/-- RESTART taken and answered DONE. -/
def restarting : State :=
  { inFrame .online with
    host :=
      { selected := true, decoder := .response, taken := some (.restart, .done), reply := [0], clocked := 0 } }

theorem witness_RestartActsAtTheFrameEnd :
    (inFrame .loading).openFor .restart [] ∧ restarting.held = false ∧ restarting.host.selected = true
      ∧ restarting.host.decoder = .response ∧ restarting.host.taken = some (.restart, .done) :=
  ⟨inFrame_openFor _ _ _, by decide⟩

theorem witness_HostBytesReachTheDecoder :
    (decoding .online .discard).held = false ∧ (decoding .online .response).host.decoder = .response
      ∧ (0 : Byte) = 0 ∧ 0x13 < (0x14 : Byte).toNat ∧ HostCode.submit.byte = 0x02
      ∧ ([0] ++ [0] : List Byte).length ≠ HostCode.submit.operandCount ([0] ++ [0] : List Byte).head?
      ∧ (List.replicate 17 0 ++ [0] : List Byte).length ≠ HostCode.submit.operandCount (some 0) := by decide

theorem witness_HostBytesReachTheDecoder_row :
    hostRow (.setMask 3) = some (.setMask, [3], []) ∧ Instr.wf (.setMask 3) = true
      ∧ (inFrame .online).held = false ∧ (inFrame .online).host.decoder = .command := by decide

theorem witness_HostBytesReachTheDecoder_out :
    (inState .online).held = false ∧ (inState .online).host.selected = false
      ∧ (decoding .online (.operands .submit [1])).host.selected = true
      ∧ (taking 10).host.decoder = .response
      ∧ (taking 10).host.reply = (0x00 :: List.replicate 9 0x11) ++ 0x11 :: []
      ∧ ((0x00 : Byte) :: List.replicate 9 0x11).length = (taking 10).host.clocked
      ∧ (taking 11).host.reply.length ≤ (taking 11).host.clocked := by decide

theorem test_hdo_sends_the_result_byte_first : (taking 0).hdo = some 0x00 ∧ (taking 11).hdo = some 0xFF := by decide

theorem witness_WrongStateChangesNothing :
    hostRow .leave = some (.leave, [], []) ∧ Instr.wf .leave = true ∧ (inFrame .config).openFor .leave []
      ∧ StationState.config ∈ HostCode.leave.refusedIn ∧ StationState.online ∉ HostCode.leave.refusedIn :=
  ⟨rfl, rfl, inFrame_openFor _ _ _, by decide, by decide⟩

/-! ### Witnesses: commands -/

/-- A command is open with one operand byte left, in an ONLINE station. -/
theorem operands_openFor (c : HostCode) (got : List Byte) (b : Byte) :
    (decoding .online (.operands c got)).openFor c (got ++ [b]) :=
  ⟨rfl, .inr ⟨got, rfl, ⟨[b], rfl⟩, by simp⟩⟩

theorem witness_StatusAndPresenceReport :
    (inFrame .config).openFor .status [] ∧ (inFrame .config).openFor .readPresence []
      ∧ (inFrame .config).ctl.station ≠ .loading :=
  ⟨inFrame_openFor _ _ _, inFrame_openFor _ _ _, by decide⟩

theorem witness_ReadFaultAndEventsReport :
    (inFrame .config).openFor .readFault [] ∧ (inFrame .config).openFor .readEvents []
      ∧ (inFrame .config).ctl.station ≠ .loading ∧ (inFrame .config).events.lastFault = none
      ∧ (inFrame .config).events.threshold < 64 :=
  ⟨inFrame_openFor _ _ _, inFrame_openFor _ _ _, by decide⟩

theorem witness_CountersReadAndClear :
    (inFrame .config).openFor .readCounters [] ∧ (inFrame .config).openFor .clearCounters (bytes2 0x0100)
      ∧ (inFrame .config).ctl.station ≠ .loading ∧ (0x0100 : BitVec 16).getLsbD 8 = true :=
  ⟨inFrame_openFor _ _ _, inFrame_openFor _ _ _, by decide⟩

theorem witness_SubmitDecides :
    (inFrame .config).openFor .submit (descriptor 3 0 1 0).bytes
      ∧ (∀ op, ¬ (descriptor 3 0 0 0).meets op) ∧ (∀ op, ¬ (descriptor 3 0 65 0).meets op)
      ∧ (descriptor 3 0xFFFFFFC0 64 262080).meets .read
      ∧ 32 ≤ (queued 32).issue.requestQueue.length ∧ (queued 31).issue.requestQueue.length < 32 := by
  refine ⟨inFrame_openFor _ _ _, fun op h => ?_, fun op h => ?_, by simp [RawDescriptor.meets, descriptor],
    by decide, by decide⟩
  · simpa [descriptor] using h.2.1
  · simpa [descriptor] using h.2.2.1

theorem witness_TakesOfferTheOldestRecord :
    (inFrame .config).openFor .takeCompletion [] ∧ (inFrame .config).openFor .takeNotify []
      ∧ (inFrame .config).ctl.station ≠ .loading ∧ (inFrame .config).completion.queue = []
      ∧ (taking 0).completion.queue = someRecord :: [someRecord]
      ∧ { someRecord with busyRetries := 8, corruptResends := 3 }.busyRetries ≤ 8
      ∧ (inFrame .config).mailbox.records = [] ∧ (station6 0 1 0).mailbox.records ≠ [] :=
  ⟨inFrame_openFor _ _ _, inFrame_openFor _ _ _, by decide⟩

theorem witness_AckEventsClearsAndReEvaluates :
    (inFrame .online).openFor .ackEvents [0x0F] ∧ (inFrame .online).ctl.station ≠ .loading :=
  ⟨inFrame_openFor _ _ _, by decide⟩

theorem witness_SetMaskAndThreshold :
    (inFrame .online).openFor .setMask [0] ∧ (inFrame .online).openFor .setThreshold [32]
      ∧ (inFrame .online).ctl.station ≠ .loading ∧ (1 ≤ (1 : Byte).toNat ∧ (32 : Byte).toNat ≤ 32)
      ∧ (0 : Byte).toNat = 0 ∧ 32 < (33 : Byte).toNat :=
  ⟨inFrame_openFor _ _ _, inFrame_openFor _ _ _, by decide⟩

theorem witness_InterruptLine :
    (inFrame .online).openFor .setLineMode [1] ∧ (inFrame .online).ctl.station ≠ .loading
      ∧ (0 : Byte).toNat = 0 ∧ (1 : Byte).toNat = 1 ∧ 2 ≤ (2 : Byte).toNat ∧ (inFrame .online).held = false :=
  ⟨inFrame_openFor _ _ _, by decide⟩

theorem witness_ConfigReadReports :
    (inFrame .config).ctl.station = .config ∧ (inFrame .config).openFor .configRead [0x01]
      ∧ (inFrame .config).openFor .configRead [0x04, BitVec.ofNat 8 (7 : WindowIdx).val]
      ∧ 8 ≤ (8 : Byte).toNat ∧ (inFrame .config).openFor .configRead [0x04, 8]
      ∧ ((5 : Byte) ≠ 1 ∧ (5 : Byte) ≠ 2 ∧ (5 : Byte) ≠ 3 ∧ (5 : Byte) ≠ 4)
      ∧ (inFrame .config).openFor .configRead [5] :=
  ⟨rfl, inFrame_openFor _ _ _, inFrame_openFor _ _ _, by decide, inFrame_openFor _ _ _, by decide,
    inFrame_openFor _ _ _⟩

/-- A window as CONFIG_WRITE gives it, with these flags. -/
def rawWindow (flags : Byte) : RawWindow := ⟨flags, 0x00100000, 256, 0, 0xFFFF⟩

theorem witness_ConfigWriteStores :
    (inFrame .config).ctl.station = .config ∧ (inFrame .config).openFor .configWrite [0x01, 15]
      ∧ 16 ≤ (16 : Byte).toNat ∧ (15 : Byte).toNat = (15 : StationNo).val
      ∧ (inFrame .config).openFor .configWrite (0x02 :: bytes2 4095)
      ∧ (1 ≤ (15 : Byte).toNat ∧ (15 : Byte).toNat ≤ 15) ∧ 15 < (16 : Byte).toNat
      ∧ (inFrame .config).openFor .configWrite (0x04 :: 7 :: (rawWindow 0x83).bytes)
      ∧ (7 : Byte).toNat = (7 : WindowIdx).val ∧ (rawWindow 0x83).flags.getLsbD 5 = false
      ∧ 8 ≤ (8 : Byte).toNat ∧ (rawWindow 0xA3).flags.getLsbD 5 = true
      ∧ (inFrame .config).openFor .configWrite [0] :=
  ⟨rfl, inFrame_openFor _ _ _, by decide, by decide, inFrame_openFor _ _ _, by decide, by decide,
    inFrame_openFor _ _ _, by decide, by decide, by decide, by decide, inFrame_openFor _ _ _⟩

/-! ### Witnesses: station states -/

theorem witness_JoinEntersJoining :
    (inFrame .config).openFor .join [] ∧ (inFrame .config).ctl.station = .config
      ∧ (write1001 0).port ≠ none
      ∧ ¬ ((∃ t, ((inFrame .config).entry t).state ≠ .free) ∨ (inFrame .config).completion.retire ≠ []
        ∨ (inFrame .config).port ≠ none ∨ (inFrame .config).tifQuiet = false)
      ∧ joinFault (inFrame .config).windows 4095 = none ∧ joinFault (inFrame .config).windows 640 = none
      ∧ joinFault (inFrame .config).windows 639 = some (.ctRange, none) :=
  ⟨inFrame_openFor _ _ _, by decide⟩

theorem witness_LeaveAndEndOfDraining :
    (inFrame .online).openFor .leave [] ∧ (inFrame .online).ctl.station = .online
      ∧ (withEntry .draining (readEntry (.stale 5))).ctl.station = .draining
      ∧ (∀ t, ((withEntry .draining (readEntry (.stale 5))).entry t).state = .free
          ∨ ∃ k, ((withEntry .draining (readEntry (.stale 5))).entry t).state = .stale k)
      ∧ (withEntry .draining (readEntry (.stale 5))).completion.retire = []
      ∧ (withEntry .draining (readEntry (.stale 5))).target.service = []
      ∧ (withEntry .draining (readEntry (.stale 5))).target.responses = []
      ∧ (withEntry .draining (readEntry (.stale 5))).port = none
      ∧ (withEntry .draining (readEntry (.stale 5))).tifQuiet = true :=
  ⟨inFrame_openFor _ _ _, rfl, rfl, (State.ortAtRest_iff _).1 (by decide), by decide⟩

/-- The station after a frame: a slot follows, with this mark decided. -/
def awaitingSlot (st : StationState) (sender : Option Origin) (mark : Mark) (begun : Bool) : State :=
  { inState st with tif := { Tif.busyWith none with exchange := some ⟨sender, mark, begun, 0⟩ } }

theorem witness_AbortEntersConfig :
    (inFrame .detached).openFor .abort []
      ∧ (inFrame .detached).ctl.station ∈ [StationState.joining, .online, .draining, .detached]
      ∧ (awaitingSlot .online none .corrupt false).tif.exchange = some ⟨none, .corrupt, false, 0⟩
      ∧ (awaitingSlot .online none .corrupt true).tif.exchange = some ⟨none, .corrupt, true, 0⟩
      ∧ (awaitingSlot .online (some .beacon) .none true).tif.exchange = some ⟨some .beacon, .none, true, 0⟩ :=
  ⟨inFrame_openFor _ _ _, by decide⟩

/-! ### Witnesses: trunk access and receptions -/

theorem witness_RoundsOpenAndEnd :
    (inState .detached).ctl.station ∈ [StationState.joining, .online, .draining, .detached]
      ∧ (inState .detached).tifQuiet = true ∧ (awaitingSlot .online none .corrupt false).tifQuiet = false
      ∧ (inState .config).ctl.station ∈ [StationState.loading, .config]
      ∧ (inState .detached).tif.incoming = false ∧ (inState .detached).tif.tx = none
      ∧ (whileFrame (inState .online)).tif.incoming = true
      ∧ (Tif.busyWith (some ⟨.beacon 0, .beacon⟩)).tx ≠ none
      ∧ (inState .detached).tif.exchange = none ∧ (inState .detached).tif.trunk ∈ [Trunk.busy, .idle 48]
      ∧ station12.tif.trunk ∉ [Trunk.busy, .idle 48] ∧ (awaitingSlot .online none .none true).tif.exchange ≠ none
      ∧ nextHas (exec (.contentionSlot 47)
          { inState .detached with tif := { Tif.busyWith none with trunk := .idle 47 } }) (fun t =>
          decide (t.tif.trunk = .idle 48)) = true := by decide

theorem witness_ContentionSlotStartsTheOfferedFrame :
    station12.tif.trunk = .idle (5 : Fin 48).val ∧ station12.tifQuiet = true
      ∧ station12.ctl.station ∈ [StationState.online, .draining]
      ∧ (station12.access.sync = .inSync ∧ (12 + 15 - station12.access.rotation.val) % 16 = 5)
      ∧ station12.target.responses = [⟨3, 0, .ok, false, [], 400, 0, false⟩]
      ∧ station12.issue.unsent = 2 :: [] ∧ (station12.entry 2).state = .ready
      ∧ (inState .online).access.sync = .lost ∧ (inState .online).target.responses = []
      ∧ (inState .online).issue.unsent = []
      ∧ station12InSlot21.tif.trunk = .idle (21 : Fin 48).val ∧ station12InSlot21.tifQuiet = true
      ∧ station12InSlot21.access.sync = .inSync ∧ 21 = 16 + (12 + 15 - station12InSlot21.access.rotation.val) % 16
      ∧ station12.tif.trunk ≠ .idle (21 : Fin 48).val ∧ (inState .online).tif.trunk = .busy := by decide

/-- The station while this frame of its own is on the wire. -/
def sending (st : StationState) (f : Frame) (o : Origin) : State :=
  { inState st with tif := Tif.busyWith (some ⟨f, o⟩) }

theorem witness_OwnFrameSentCounts :
    (inState .online).tif.tx = none
      ∧ (sending .online (.beacon 0) .beacon).tif.tx = some ⟨.beacon 0, .beacon⟩
      ∧ (sending .online (.beacon 0) .beacon).presence.table[(Frame.beacon 0).source] = .self
      ∧ (sending .draining (.request ⟨0, 0, .read 2 4⟩) (.request 2)).presence.table[
          (Frame.request ⟨0, 0, .read 2 4⟩).source] = .self
      ∧ (sending .config (.completion ⟨0, 0, 2, .ok, false, []⟩) (.completion 0)).ctl.station
        ∈ [StationState.loading, .config, .joining]
      ∧ (sending .detached (.beacon 0) .beacon).ctl.station = .detached
      ∧ (sending .detached (.beacon 0) .beacon).presence.table[(Frame.beacon 0).source] = .self := by decide

/-- An own frame that ends in CONFIG after ABORT and a change of the station number is handed to no block. -/
theorem test_own_frame_ends_under_a_new_number :
    nextHas (exec .ownFrameSent (sending .config (.request ⟨7, 0, .read 2 4⟩) (.request 2))) (fun t =>
      decide (t.tif.tx = none) && decide (t.presence.table[7] = .absent)
        && decide (t.tif.exchange = some ⟨some (.request 2), .none, false, 0⟩)) = true := by decide

theorem witness_CollisionAbandonsTheFrame :
    (sending .online (.beacon 0) .beacon).tif.tx ≠ none ∧ (sending .config (.beacon 0) .beacon).tif.tx ≠ none
      ∧ ({ (inState .online).access with collisions := 2 } : AccessUnit).collisions < 3
      ∧ ({ (inState .online).access with collisions := 3 } : AccessUnit).collisions = 3 := by decide

theorem witness_WindowDecision :
    (windows18[(2 : WindowIdx)]).config.enabled = true ∧ (windows18[(0 : WindowIdx)]).config.holds 0x00100FFF
      ∧ ¬ (windows18[(0 : WindowIdx)]).config.holds 0x00101000 ∧ (windows18[(1 : WindowIdx)]).config.holds 0x00101000
      ∧ RefusalReason.range.code < RefusalReason.initiator.code := by
  simp only [WindowConfig.holds]
  decide

theorem witness_RequestFrameIsDecided :
    ReqFrame.wf ⟨2, 0x00100000, .read 4 64⟩ = true ∧ ReqFrame.wf ⟨2, 0x00100000, .read 4 65⟩ = false
      ∧ (whileFrame (station6 0 0 0)).tifQuiet = true ∧ (whileFrame (station6 0 0 0)).tif.incoming = true
      ∧ (station6 0 0 0).tif.incoming = false ∧ (awaitingSlot .online none .corrupt false).tifQuiet = false
      ∧ (2 : StationNo) ≠ (station6 0 0 0).ctl.number ∧ (station6 0 0 0).ctl.station = .online
      ∧ lookup (station6 0 0 0).windows ⟨2, 0x00200000, .read 4 64⟩ = .noMatch
      ∧ lookup (station6 0 0 0).windows ⟨2, 0x00108000, .read 4 64⟩ = .refuse 2 .rights
      ∧ lookup (station6 0 0 0).windows ⟨2, 0x00100000, .read 4 64⟩ = .permitted 0 (.memory 0)
      ∧ 8 ≤ (station6 8 0 0).target.nonPosted ∧ ¬ 8 ≤ (station6 7 0 0).target.nonPosted
      ∧ 16 ≤ (station6 0 15 1).mailbox.records.length + (station6 0 15 1).mailbox.reserved
      ∧ (inState .draining).ctl.station ∈ [StationState.joining, .draining]
      ∧ (inState .detached).ctl.station = .detached := by decide

/-- The completion of tag 2 from station 6. -/
def completionOf (status : CplStatus) (data : List Byte) : CplFrame := ⟨6, 0, 2, status, false, data⟩

/-- The station with this op AWAITING station 6 at tag 2. -/
def awaiting6 (op : Op) : State := withEntry .online { readEntry (.awaiting 9) with op := op }

theorem witness_CompletionFrameIsMatched :
    ((completionOf .ok [1, 2, 3, 4]).wf = true ∧ (completionOf .ok (List.replicate 65 0)).wf = false
        ∧ (whileFrame (awaiting6 .read)).tif.incoming = true ∧ (awaiting6 .read).tif.incoming = false
        ∧ (awaitingSlot .online none .corrupt false).tifQuiet = false
        ∧ (inState .detached).ctl.station = .detached)
      ∧ (whileFrame (awaiting6 .read)).tifQuiet = true
      ∧ (completionOf .ok []).source ≠ (awaiting6 .read).ctl.number
      ∧ (completionOf .ok []).destination = (awaiting6 .read).ctl.number
      ∧ ((∃ k, ((awaiting6 .read).entry 2).state = .awaiting k) ∧ ((awaiting6 .read).entry 2).target = some 6)
      ∧ (completionOf .ok [1, 2, 3, 4]).data.length = ((awaiting6 .read).entry 2).length
      ∧ ((awaiting6 .swap).entry 2).op = .swap ∧ (completionOf .ok [1, 2, 3, 4]).data = (#v[1, 2, 3, 4]).toList
      ∧ ((awaiting6 .writeAcked).entry 2).op = .writeAcked
      ∧ (completionOf .memoryFault []).status = .memoryFault
      ∧ (∃ k, ((withEntry .online (readEntry (.stale 7))).entry 2).state = .stale k)
      ∧ ((inState .online).entry 2).state = .free ∧ (inState .joining).ctl.station = .joining :=
  ⟨by decide, by decide, by decide, by decide, ⟨⟨9, rfl⟩, rfl⟩, by decide, by decide, by decide, by decide,
    by decide, ⟨7, rfl⟩, by decide, by decide⟩

/-- The station hears station 6. -/
def hearing6 : State :=
  { awaiting6 .read with
    presence := { (inState .online).presence with table := (presenceCleared 0).set 6 (.present 0) }
    target := { service := [], responses := [⟨6, 0, .ok, false, [], 400, 0, false⟩], nonPosted := 1 } }

/-- The slot of an own request has begun, and the CORRUPT mark waits for the slot of a frame that ended behind
it. -/
def twoSlots : State :=
  { inState .online with
    tif := { Tif.busyWith none with exchange := some ⟨some (.request 2), .none, true, 0⟩, corruptNext := true } }

theorem witness_BeaconAndCorruptReceptions :
    (whileFrame (inState .joining)).tif.tx = none ∧ (whileFrame (inState .joining)).tif.incoming = true
      ∧ (4 : StationNo) ≠ (inState .joining).ctl.number
      ∧ (inState .joining).ctl.station ∈ [StationState.joining, .online, .draining]
      ∧ (inState .detached).ctl.station = .detached ∧ (inState .online).tif.incoming = false
      ∧ (sending .online (.beacon 0) .beacon).tif.tx ≠ none
      ∧ (inState .config).ctl.station ∈ [StationState.loading, .config]
      ∧ (twoSlots.tif.exchange = some ⟨some (.request 2), .none, true, 0⟩ ∧ twoSlots.tif.corruptNext = true) := by
  decide

/-- R23, R177: a frame that was passing at JOIN, or whose start delimiter was not seen, is not received. -/
theorem test_frame_without_its_start_is_not_received :
    nextHas (exec (.beaconReceived 0) (inState .joining)) (fun t => decide (t = inState .joining)) = true := by
  decide

/-- R50: the expiry behind a frame finds its timer restarted. -/
theorem test_expiry_behind_a_frame_does_nothing :
    nextHas (exec (.beaconReceived 6) (whileFrame hearing6)) (fun t =>
      nextHas (exec (.presenceTimeout 6) t) (fun u => decide (u.presence.table[6] = .present 768)
        && !u.events.trunkCauses.presenceChange && decide (u.completion.retire = []))) = true := by decide

/-- A BEACON that ends before the own slot does leaves the own exchange as it is. -/
theorem test_beacon_before_the_own_slot :
    nextHas (exec (.beaconReceived 6) (whileFrame (awaitingSlot .online (some (.request 2)) .none false))) (fun t =>
      decide (t.tif.exchange = some ⟨some (.request 2), .none, false, 0⟩) && decide (t.access.rotation = 6)
        && !t.tif.incoming) = true := by decide

theorem witness_DuplicateLeavesTheTrunk :
    Frame.source (.request ⟨0, 0, .read 2 64⟩) = (inState .online).ctl.number
      ∧ ReqFrame.wf ⟨0, 0, .read 2 64⟩ = true ∧ (whileFrame (inState .online)).tifQuiet = true
      ∧ (whileFrame (inState .online)).tif.tx = none ∧ (whileFrame (inState .joining)).tif.incoming = true
      ∧ (inState .online).presence.table[(inState .online).ctl.number] = .self
      ∧ (inState .joining).presence.table[(inState .joining).ctl.number] = .self
      ∧ CplFrame.wf ⟨0, 0, 2, .ok, false, []⟩ = true ∧ (inState .joining).ctl.station = .joining := by decide

/-! ### Witnesses: timers -/

theorem witness_PresenceTimeoutLosesTheStation :
    hearing6.presence.table[(6 : StationNo)] = .present 0
      ∧ hearing6.ctl.station ∈ [StationState.joining, .online, .draining, .detached]
      ∧ ((∃ k, (hearing6.entry 2).state = .awaiting k) ∧ (hearing6.entry 2).target = some 6)
      ∧ hearing6.presence.table[(5 : StationNo)] ≠ .present 0 :=
  ⟨by decide, by decide, ⟨⟨9, rfl⟩, rfl⟩, by decide⟩

theorem witness_BeaconAndHoldoffTimers :
    ({ (inState .online).presence with beaconTimer := .running 0 } : PresenceMonitor).beaconTimer = .running 0
      ∧ (inState .online).ctl.station ∈ [StationState.online, .draining]
      ∧ (inState .online).presence.beaconTimer ≠ .running 0 ∧ (inState .joining).ctl.station = .joining
      ∧ (inState .joining).ctl.joinHoldoff = some 0 ∧ (inState .online).ctl.station ≠ .joining := by decide

theorem witness_LifetimeReleasesTheReservation :
    (∃ e, [(⟨frameOf (.read 1 4), 0, .memory 0, .live 0, false⟩ : ServiceEntry)][(0 : Fin 8).val]? = some e
        ∧ e.reservation = .live 0)
      ∧ (∀ e, (write1001 0).target.service[(0 : Fin 8).val]? = some e → e.reservation ≠ .live 0)
      ∧ ([⟨6, 0, .ok, false, [], 0, 0, false⟩] = [] ++ (⟨6, 0, .ok, false, [], 0, 0, false⟩ : ResponseEntry) :: []
        ∧ ([] : List ResponseEntry).length = (0 : Fin 8).val
        ∧ (⟨6, 0, .ok, false, [], 0, 0, false⟩ : ResponseEntry).lifetime = 0)
      ∧ (∀ r, hearing6.target.responses[(0 : Fin 8).val]? = some r → r.lifetime ≠ 0) :=
  ⟨⟨_, rfl, rfl⟩, fun e h => by simp [write1001] at h; simp [← h], by decide, by decide⟩

/-! ### Witnesses: the acknowledgment slot -/

/-- A claim on window 0 with this decision. -/
def claimOf (d : Decision) : Claim := ⟨0, ⟨3, 0x00100000, .read 2 4⟩, d⟩

theorem witness_SlotBeginDrivesTheMarks :
    (inState .online).tif.exchange = none
      ∧ (awaitingSlot .online none .none true).tif.exchange = some ⟨none, .none, true, 0⟩
      ∧ (awaitingSlot .online none (.claim (claimOf .busy)) false).tif.exchange
        = some ⟨none, .claim (claimOf .busy), false, 0⟩
      ∧ (claimOf .refuse).decision = .refuse ∧ (claimOf (.accept (.memory 0))).decision = .accept (.memory 0)
      ∧ (awaitingSlot .draining none .corrupt false).ctl.station ∈ [StationState.online, .draining]
      ∧ (awaitingSlot .detached none .completion false).ctl.station
        ∈ [StationState.loading, .config, .joining, .detached] := by decide

theorem witness_SlotOutcomes :
    (Mark.cells 12 .corrupt).corrupt = true ∧ SlotCells.released.number = 15
      ∧ (∀ i : Fin 4, (SlotCells.claim 15 0).number.getLsbD i.val ≠ (SlotCells.claim 15 0).complement.getLsbD i.val)
      ∧ (∀ i : Fin 2, (SlotCells.claim 15 2).code.getLsbD i.val ≠ (SlotCells.claim 15 2).codeComplement.getLsbD i.val)
      ∧ (SlotCells.claim 15 0).number.toNat = (15 : StationNo).val ∧ (0 : StationNo) ≠ 15
      ∧ (0 : BitVec 2) ≠ 1 ∧ (⟨false, 15, 15, 0, 3⟩ : SlotCells).resolve = .conflict := by decide

theorem witness_SlotEndReadsBackTheClaim :
    (awaitingSlot .online none (.claim (claimOf (.accept (.memory 0)))) true).tif.exchange
        = some ⟨none, .claim (claimOf (.accept (.memory 0))), true, 0⟩
      ∧ (SlotCells.claim 0 0).resolve = .accept (awaitingSlot .online none .none true).ctl.number
      ∧ ((SlotCells.claim 0 0).combine (SlotCells.claim 9 1)).resolve = .conflict
      ∧ (SlotCells.claim 0 1).resolve ≠ .conflict
      ∧ (awaitingSlot .online (some (.request 2)) (.claim (claimOf .busy)) true).tif.exchange
        = some ⟨some (.request 2), .claim (claimOf .busy), true, 0⟩
      ∧ (∀ c, Mark.corrupt ≠ .claim c) := by
  refine ⟨by decide, by decide, by decide, by decide, by decide, by simp⟩

/-- The slot of the request of tag 2, whose entry is this one. -/
def requestSlot (e : OrtEntry) : State :=
  { withEntry .online e with
    tif := { Tif.busyWith none with exchange := some ⟨some (.request 2), .none, true, 0⟩ } }

theorem witness_SlotEndGivesTheRequestItsOutcome :
    (requestSlot (readEntry .ready)).tif.exchange = some ⟨some (.request 2), .none, true, 0⟩
      ∧ (∀ c, Mark.none ≠ .claim c) ∧ ((requestSlot (readEntry .ready)).entry 2).state = .ready
      ∧ ((requestSlot (readEntry .done)).entry 2).state ≠ .ready
      ∧ (SlotCells.claim 6 0).resolve = .accept 6 ∧ (SlotCells.claim 6 1).resolve = .busy 6
      ∧ (SlotCells.claim 6 2).resolve = .refuse 6 ∧ (Mark.cells 12 .corrupt).resolve = .corrupt
      ∧ ((requestSlot { readEntry .ready with busyRetries := 7 }).entry 2).busyRetries < 8
      ∧ 8 ≤ ((requestSlot { readEntry .ready with busyRetries := 8 }).entry 2).busyRetries
      ∧ ((requestSlot { readEntry .ready with corruptResends := 2 }).entry 2).corruptResends < 3
      ∧ 3 ≤ ((requestSlot { readEntry .ready with corruptResends := 3 }).entry 2).corruptResends := by
  refine ⟨by decide, by simp, by decide, by decide, by decide, by decide, by decide, by decide, by decide,
    by decide, by decide, by decide⟩

theorem test_ninth_busy_exhausts :
    nextHas (exec (.slotEnd (SlotCells.claim 6 1)) (requestSlot { readEntry .ready with busyRetries := 8 }))
      (fun t => decide ((t.entry 2).result = some .busyExhausted) && decide ((t.entry 2).target = some 6)
        && decide (t.completion.retire = [2])) = true := by decide

theorem test_first_busy_holds_four_ticks :
    nextHas (exec (.slotEnd (SlotCells.claim 6 1)) (requestSlot (readEntry .ready)))
      (fun t => decide ((t.entry 2).state = .hold 4) && decide (t.issue.unsent = [2])) = true := by decide

/-- The slot of a completion for station 6, whose response has this many resends used. -/
def completionSlot (resends : Nat) (onTrunk : Bool) : State :=
  { inState .online with
    tif := { Tif.busyWith none with exchange := some ⟨some (.completion 6), .none, true, 0⟩ }
    target :=
      { service := [], responses := [⟨6, 0, .ok, false, [], 400, resends, onTrunk⟩], nonPosted := 1 } }

theorem witness_SlotEndGivesTheResponseItsOutcome :
    (completionSlot 3 true).tif.exchange = some ⟨some (.completion 6), .none, true, 0⟩
      ∧ (∀ c, Mark.none ≠ .claim c)
      ∧ (completionSlot 3 true).target.responses = ⟨6, 0, .ok, false, [], 400, 3, true⟩ :: []
      ∧ (completionSlot 2 false).target.responses = ⟨6, 0, .ok, false, [], 400, 2, false⟩ :: []
      ∧ (SlotCells.claim 6 0).resolve = .accept 6 ∧ SlotCells.released.resolve ≠ .accept 6
      ∧ SlotCells.released.resolve ≠ .corrupt ∧ (inState .online).target.responses = [] := by
  refine ⟨by decide, by simp, by decide, by decide, by decide, by decide, by decide, by decide⟩

/-! ### Witnesses: the initiator side -/

theorem witness_IssueTakesTheLowestFreeTag :
    (inState .online).issue.requestQueue = []
      ∧ (beforeIssue [waiting .writeAcked false]).issue.requestQueue = waiting .writeAcked false :: []
      ∧ (beforeIssue []).ctl.station = .online ∧ (∃ t, ((beforeIssue []).entry t).state = .free)
      ∧ (waiting .writeAcked false).fence = false ∧ (∀ t, ((beforeIssue []).entry t).state ≠ .fetching)
      ∧ ((beforeIssue []).entry 2).state = .free ∧ (∀ u < (2 : Tag), ((beforeIssue []).entry u).state ≠ .free)
      ∧ (queued 1).ctl.station ≠ .online := by decide

theorem witness_IssueTakesTheLowestFreeTag_fence :
    (waiting .write true).fence = true
      ∧ (∀ t, ((withEntry .online (readEntry (.stale 5))).entry t).state = .free
          ∨ ∃ k, ((withEntry .online (readEntry (.stale 5))).entry t).state = .stale k)
      ∧ (withEntry .online (readEntry (.stale 5))).completion.retire = [] :=
  ⟨by decide, (State.ortAtRest_iff _).1 (by decide), by decide⟩

theorem witness_EntryTimersExpire :
    ((withEntry .online (readEntry (.hold 0))).entry 2).state = .hold 0
      ∧ ((withEntry .online (readEntry (.awaiting 0))).entry 2).state = .awaiting 0
      ∧ ((withEntry .online (readEntry (.stale 0))).entry 2).state = .stale 0
      ∧ ((inState .online).entry 2).state = .free := by decide

/-- An entry that is DONE with this status. -/
def doneEntry (st : Status) : OrtEntry := { readEntry .done with result := some st }

theorem witness_PlacementBuildsTheRecord :
    (inState .online).completion.retire = [] ∧ 32 ≤ (List.replicate 32 someRecord).length
      ∧ (withEntry .online (doneEntry .timeout)).completion.retire = 2 :: []
      ∧ ((withEntry .online (doneEntry .timeout)).entry 2).result = some .timeout
      ∧ (withEntry .online (doneEntry .timeout)).completion.queue.length < 32
      ∧ ((Status.timeout = .timeout ∨ Status.timeout = .targetLost)
        ∧ (withEntry .online (doneEntry .timeout)).ctl.station ∈ [StationState.online, .draining])
      ∧ ¬ ((Status.timeout = .timeout ∨ Status.timeout = .targetLost)
        ∧ (withEntry .config (doneEntry .timeout)).ctl.station ∈ [StationState.online, .draining]) := by decide

theorem test_timeout_is_quarantined :
    nextHas (exec .placeRecord (withEntry .online (doneEntry .timeout))) (fun t =>
      decide ((t.entry 2).state = .stale 1024) && decide (t.completion.queue.length = 1)) = true := by decide

theorem witness_DoneCausesAndCounters : 0 < (1 : Nat) := by decide

/-! ### Witnesses: the memory port and service -/

/-- A notify write at the head of the service queue. -/
def notifyHead (body : ReqBody) (r : Reservation) : ServiceEntry :=
  { request := frameOf body, window := 2, dest := .notify 4, reservation := r, notifyHold := true }

/-- An idle port, a notify entry ahead of a MEMORY entry, and a store waiting. -/
def notifyThenMemory : State :=
  { withEntry .online (readEntry .storing) with
    target :=
      { service := notifyHead (.write [1, 2, 3, 4]) .none :: (write1001 0).target.service, responses := []
        nonPosted := 1 } }

theorem witness_ArbiterGrantsInOrder :
    (write1001 0).port ≠ none
      ∧ ({ write1001 0 with port := none } : State).target.service = (write1001 0).target.service.headD
          ⟨frameOf (.read 0 1), 0, .memory 0, .none, false⟩ :: []
      ∧ ((write1001 0).target.service.headD ⟨frameOf (.read 0 1), 0, .memory 0, .none, false⟩).dest = .memory 1001
      ∧ (withEntry .online (readEntry .storing)).ort.issueOrder = [] ++ 2 :: []
      ∧ (((withEntry .online (readEntry .storing)).entry 2).state = .storing
        ∧ ((withEntry .online (readEntry .storing)).entry 2).endingMark = false)
      ∧ (((withEntry .online (readEntry .fetching)).entry 2).state = .fetching
        ∧ ((withEntry .online (readEntry .fetching)).entry 2).endingMark = false)
      ∧ (withEntry .online (readEntry .storing)).target.service = []
      ∧ notifyThenMemory.port = none ∧ notifyThenMemory.target.service = notifyHead (.write [1, 2, 3, 4]) .none ::
          (write1001 0).target.service
      ∧ (notifyHead (.write [1, 2, 3, 4]) .none).dest = .notify 4 := by decide

/-- R137: with a store waiting, the MEMORY entry behind a notify entry is the next operation on the port. -/
theorem test_no_store_between_service_entries :
    nextHas (exec .memoryGrant notifyThenMemory) (fun t => decide (t = notifyThenMemory)) = true
      ∧ nextHas (exec .notifyService notifyThenMemory) (fun t => nextHas (exec .memoryGrant t) (fun u =>
          decide (u.port.map (fun op => op.requester) = some .target))) = true := by decide

theorem witness_WordAccessReadsOrWritesItsLanes :
    (inState .online).port = none ∧ (write1001 0).port ≠ none
      ∧ (targetOp .read 262143 1 0).word = 131071
      ∧ (targetOp .read 262144 1 0).word = 131072 ∧ Memory.wf (write1001 0).localMem = true
      ∧ (targetOp .read 262143 1 0).writing = false ∧ (targetOp (.write [1]) 262143 1 0).writing = true
      ∧ (targetOp (.swap #v[0, 0, 0, 0] #v[1, 1, 1, 1]) 0 4 1).writing = false
      ∧ (targetOp (.swap #v[0, 0, 0, 0] #v[1, 1, 1, 1]) 0 4 2).writing = true := by decide

theorem test_swap_unequal_ends_without_a_write :
    nextHas (exec (.wordAccessComplete (some 0x0100))
        { write1001 0 with
          port := some { targetOp (.swap #v[0, 0, 0, 0] #v[1, 1, 1, 1]) 0 4 1 with gathered := [0, 0] } })
      (fun t => decide (t.port = none) && decide (t.localMem = [⟨3, 1⟩])) = true := by decide

theorem witness_OperationEndsAtItsRequester :
    (inState .online).port = none ∧ (∃ op, (write1001 3).port = some op) ∧ (∃ op, (write1001 3).port = some op ∧ op.wait ≠ 0)
      ∧ (∃ op, (write1001 3).idle.port = some op ∧ op.wait = 0) ∧ (write1001 3).idle.ctl.waitLimit ≠ 0
      ∧ (∃ t, exec (.wordAccessComplete none) (write1001 3).idle = .next t)
      ∧ (∃ t, exec .waitTimerExpiry (write1001 3).idle = .next t)
      ∧ (targetOp .read 0 1 0).requester = .target
      ∧ { targetOp .read 0 1 0 with discard := true }.discard = true
      ∧ (∃ e rest, (write1001 3).target.service = e :: rest)
      ∧ { targetOp .read 0 1 0 with requester := .fetch 2 }.requester = .fetch 2
      ∧ ((withEntry .online (readEntry .fetching)).entry 2).state = .fetching
      ∧ ((withEntry .config { readEntry .fetching with endingMark := true }).entry 2).endingMark = true
      ∧ { targetOp .read 0 1 0 with requester := .store 2 }.requester = .store 2
      ∧ ((withEntry .online (readEntry .storing)).entry 2).state = .storing :=
  ⟨by decide, ⟨_, rfl⟩, ⟨_, rfl, by decide⟩, ⟨_, rfl, by decide⟩, by decide, ⟨_, rfl⟩, ⟨_, rfl⟩, by decide, by decide, ⟨_, _, rfl⟩, by decide, by decide, by decide, by decide, by decide⟩

theorem witness_NotifyEntryBecomesARecord :
    (inState .online).target.service = []
      ∧ (∃ e rest, (write1001 0).target.service = e :: rest ∧ e.dest.isNotify = false)
      ∧ (notifyHead (.write [1, 2, 3, 4]) .none).dest = .notify 4
      ∧ (notifyHead (.write [1, 2, 3, 4]) .none).notifyHold = true
      ∧ (notifyHead (.writeAcked 1 [1, 2, 3, 4]) (.live 0)).reservation = .live 0
      ∧ (notifyHead (.writeAcked 1 [1, 2, 3, 4]) .expired).reservation.isLive = false :=
  ⟨by decide, ⟨_, _, rfl, by decide⟩, by decide, by decide, by decide, by decide⟩

theorem test_notify_record :
    nextHas (exec .notifyService
        { inState .online with
          target := { service := [notifyHead (.write [1, 2, 3, 4]) .none], responses := [], nonPosted := 0 }
          mailbox := { records := [], reserved := 1 } })
      (fun t => decide (t.mailbox = ⟨[⟨3, 2, 4, [1, 2, 3, 4], false⟩], 0⟩) && t.events.pending.notify) = true := by
  decide

/-! ### Witnesses: frames and laws -/

/-- R184: the first bit of a byte is its most significant. -/
theorem test_line_of_a_byte :
    byteCells [0x81] = [LineCell.ofBit true] ++ List.replicate 6 (LineCell.ofBit false) ++ [LineCell.ofBit true]
      ∧ LineCell.ofBit false = ⟨.dominant, .recessive⟩ := by decide

/-- R24: a sender that sees its 0 bit driven as a dominant cell abandons its frame. -/
theorem test_mismatch_abandons :
    driveOn [LineCell.ofBit false, LineCell.ofBit true] [LineCell.dominant, LineCell.recessive]
        = LineCell.ofBit false :: abandonSequence
      ∧ ownCommand [LineCell.ofBit false] [LineCell.dominant] = .collision := by decide

/-- R23: a frame whose start delimiter is disturbed is not received. -/
theorem test_disturbed_start : lineCommands (byteCells [0x66] ++ endDelimiter) = [] := by decide

theorem witness_FrameRoundTrip :
    Frame.wf (.beacon 15) = true ∧ Frame.wf (.request (frameOf (.write (List.replicate 64 0)))) = true
      ∧ Frame.wf (.completion ⟨3, 15, 15, .ok, true, List.replicate 64 0⟩) = true ∧ crc16 [] ≠ 0
      ∧ ([true] : List Bool).length % 8 ≠ 0 ∧ ([] : List LineCell).length ≤ ([LineCell.dominant]).length := by
  decide

theorem write1001_law : TargetLaw (write1001 3) where
  counted := by decide
  reservations := by decide
  places := by decide
  held := by decide
  mailbox := by decide
  entries := by decide
  inFlight := fun _ _ _ _ => ⟨_, _, rfl, rfl⟩
  offTrunk := fun h => absurd h (by decide)

theorem witness_TargetLawKept : ∃ t, TargetLaw (write1001 3) ∧ step (write1001 3) = .next t :=
  ⟨_, write1001_law, rfl⟩

/-- A station whose tag 2 is READY and first to send, with tag 5 issued behind it. -/
def twoReady : State :=
  { inState .online with
    tif := { Tif.busyWith none with trunk := .idle 32 }
    ort :=
      { entries := ((Vector.replicate 16 OrtEntry.blank).set 2 (readEntry .ready)).set 5 (readEntry .ready)
        issueOrder := [2, 5] }
    issue := { requestQueue := [], unsent := [2, 5] } }

theorem twoReady_law : OrtLaw twoReady where
  orderNodup := by decide
  ordered := by decide
  unsent := by decide
  retireNodup := by decide
  retired := by decide
  result := by decide
  awaiting := by decide
  storing := by decide
  counts := by decide
  oneFetch := by decide
  marked := by decide
  port := fun _ h => by cases h
  offTrunk := fun h => absurd h (by decide)
  clear := fun h => absurd h (by decide)

theorem witness_OrtLawKept : ∃ t, OrtLaw twoReady ∧ step twoReady = .next t := ⟨_, twoReady_law, rfl⟩

theorem witness_StationLawKept : ∃ t, StationLaw heldState ∧ step heldState = .next t :=
  ⟨_, heldState_law, rfl⟩

theorem witness_StationStateDoors :
    ∃ t, exec .joinHoldoffExpiry (inState .joining) = .next t
      ∧ t.ctl.station ≠ (inState .joining).ctl.station :=
  ⟨_, rfl, by decide⟩

theorem witness_LawOfSilence :
    ∃ t, (inState .joining).ctl.station ∈ [StationState.loading, .config, .joining, .detached]
      ∧ exec (.beaconReceived 4) (inState .joining) = .next t :=
  ⟨_, by decide, rfl⟩

theorem witness_ClaimLaw :
    ∃ t, exec (.slotEnd (SlotCells.claim 0 0))
        (awaitingSlot .online none (.claim (claimOf (.accept (.memory 0)))) true) = .next t
      ∧ t.target.service.map (fun x => x.request) = [(claimOf .busy).frame] :=
  ⟨_, rfl, by decide⟩

/-- The READ of tag 5 is on the wire; the READ of tag 2, issued before it, is AWAITING. -/
def secondOnTheWire : State :=
  { inState .online with
    tif := Tif.busyWith (some ⟨.request ⟨0, 0, .read 5 4⟩, .request 5⟩)
    ort :=
      { entries :=
          ((Vector.replicate 16 OrtEntry.blank).set 2 (readEntry (.awaiting 900))).set 5 (readEntry .ready)
        issueOrder := [2, 5] }
    issue := { requestQueue := [], unsent := [5] } }

theorem secondOnTheWire_ort : OrtLaw secondOnTheWire where
  orderNodup := by decide
  ordered := by decide
  unsent := by decide
  retireNodup := by decide
  retired := by decide
  result := by decide
  awaiting := by decide
  storing := by decide
  counts := by decide
  oneFetch := by decide
  marked := by decide
  port := fun _ h => by cases h
  offTrunk := fun h => absurd h (by decide)
  clear := fun h => absurd h (by decide)

theorem secondOnTheWire_disabled :
    ∀ i : WindowIdx, (secondOnTheWire.windows[i]).config.enabled = false := by decide

theorem secondOnTheWire_station : StationLaw secondOnTheWire where
  held := fun h => by cases h
  self := fun _ => by decide
  deaf := fun h => by cases h
  table := fun _ _ =>
    ⟨fun i _ _ h => absurd (h.symm.trans (secondOnTheWire_disabled i)) (by decide),
      fun i h => absurd (h.symm.trans (secondOnTheWire_disabled i)) (by decide), by decide, by decide⟩
  waitLimit := by decide
  holdoff := by decide
  beacon := by decide
  queued := by decide
  collisions := by decide
  queues := by decide
  threshold := by decide
  pulse := by decide
  masked := by decide
  quiet := by decide
  wire := by decide
  incoming := by decide
  corruptNext := by decide
  round := fun _ h => by cases h
  memory := by decide

theorem secondOnTheWire_sendOrder : SendOrder secondOnTheWire where
  ready := fun _ _ h _ => by cases h; decide
  earlier := fun _ g h u hu => by
    cases h
    obtain ⟨a, b, c, h⟩ := hu
    match a, b, h with
    | [], [], h => cases h; decide
    | [], x :: b, h => simp [secondOnTheWire] at h
    | x :: y :: a, b, h => simp [secondOnTheWire] at h
    | [x], b, h => simp [secondOnTheWire] at h

theorem witness_SendOrderLaw :
    ∃ t, OrtLaw secondOnTheWire ∧ StationLaw secondOnTheWire ∧ SendOrder secondOnTheWire
      ∧ step secondOnTheWire = .next t ∧ secondOnTheWire.issuedBefore 2 5
      ∧ (secondOnTheWire.tif.tx.map (fun x => x.origin)) = some (.request 5) :=
  ⟨_, secondOnTheWire_ort, secondOnTheWire_station, secondOnTheWire_sendOrder, rfl, ⟨[], [], [], rfl⟩, rfl⟩

/-- R88, R89: with tag 2 READY before it, the entry of tag 5 does not start. -/
theorem test_first_of_the_unsent_list_starts :
    nextHas (exec (.contentionSlot 32) twoReady) (fun t =>
      decide (t.tif.tx.map (fun x => x.origin) = some (.request 2))) = true := by decide

end Sys2Proof.Tests
end

section
/-! PROOFS. Chapter 1 (the shared address space and windows): the Window Decoder's result (O31), and what a
claimant does with the slot it reads back (O41). -/

namespace Sys2Proof.Machine

/-! ### Matching a window (R5, R6) -/

/-- R5: an address matches a window exactly when it is enabled and its trunk range holds the address. -/
theorem WindowConfig.covers_iff (w : WindowConfig) (address : Nat) :
    w.covers address = true ↔ w.enabled = true ∧ w.holds address := by
  simp only [WindowConfig.covers, Bool.and_eq_true, decide_eq_true_eq, and_assoc]
  rfl

/-- R6: no window matches. -/
theorem matchWindow_none_iff (ws : Vector Window 8) (address : Nat) :
    matchWindow ws address = none ↔
      ∀ i : WindowIdx, ¬ ((ws[i]).config.enabled = true ∧ (ws[i]).config.holds address) := by
  simp only [matchWindow, List.find?_eq_none, WindowConfig.covers_iff, mem_allWindows, forall_const]

/-- R5, log entry 15: the window taken matches, and no lower one does. -/
theorem matchWindow_some_iff (ws : Vector Window 8) (address : Nat) (i : WindowIdx) :
    matchWindow ws address = some i ↔
      ((ws[i]).config.enabled = true ∧ (ws[i]).config.holds address)
        ∧ ∀ j < i, ¬ ((ws[j]).config.enabled = true ∧ (ws[j]).config.holds address) := by
  have hl : allWindows = List.finRange 8 := by decide
  simp only [matchWindow, hl, List.find?_eq_some_iff_getElem, Bool.not_eq_true', ← Bool.not_eq_true,
    WindowConfig.covers_iff, List.getElem_finRange, List.length_finRange]
  constructor
  · rintro ⟨hm, k, hk, rfl, hlow⟩
    exact ⟨hm, fun j hj => hlow j.val hj⟩
  · rintro ⟨hm, hlow⟩
    exact ⟨hm, i.val, i.isLt, rfl, fun j hj => hlow ⟨j, by omega⟩ hj⟩

/-! ### The five checks (R7 to R12) -/

/-- R8 to R12: the request fails the check that has this reason. -/
def WindowConfig.fails (w : WindowConfig) (f : ReqFrame) : RefusalReason → Prop
  | .range => w.trunkBase.toNat + w.length.toNat < f.address.toNat + f.body.length
  | .initiator => w.allowed.getLsbD f.source.val = false
  | .rights =>
    (f.body.op = .read ∧ w.readRight = false)
      ∨ ((f.body.op = .write ∨ f.body.op = .writeAcked) ∧ w.writeRight = false)
      ∨ (f.body.op = .swap ∧ ¬ (w.kind = .memory ∧ w.readRight = true ∧ w.writeRight = true))
  | .notifyForm =>
    w.kind = .notify
      ∧ ¬ ((f.body.op = .write ∨ f.body.op = .writeAcked) ∧ f.body.length = 4 ∧ f.address.toNat % 4 = 0)
  | .swapAlign => f.body.op = .swap ∧ f.address.toNat % 4 ≠ 0

/-- The checks of the model on this request. -/
abbrev WindowConfig.firstFailureOf (w : WindowConfig) (f : ReqFrame) : Option RefusalReason :=
  w.firstFailure f.source f.body.op f.address.toNat f.body.length

/-- R10: the rights check, op by op. -/
theorem WindowConfig.permitsOp_false_iff (w : WindowConfig) (op : Op) :
    w.permitsOp op = false ↔
      (op = .read ∧ w.readRight = false) ∨ ((op = .write ∨ op = .writeAcked) ∧ w.writeRight = false)
        ∨ (op = .swap ∧ ¬ (w.kind = .memory ∧ w.readRight = true ∧ w.writeRight = true)) := by
  cases op with
  | swap =>
    have hb : w.permitsOp .swap = false ↔ ¬ (w.kind = .memory ∧ w.readRight = true ∧ w.writeRight = true) := by
      rw [← Bool.not_eq_true, WindowConfig.permitsOp, Bool.and_eq_true, Bool.and_eq_true, decide_eq_true_eq,
        and_comm]
    simpa using hb
  | read => simp [WindowConfig.permitsOp]
  | write => simp [WindowConfig.permitsOp]
  | writeAcked => simp [WindowConfig.permitsOp]

/-- R11: the form of a notify write. -/
theorem notifyForm_iff (op : Op) (address length : Nat) :
    notifyForm op address length = true ↔
      (op = .write ∨ op = .writeAcked) ∧ length = 4 ∧ address % 4 = 0 := by
  simp [notifyForm, and_assoc]

/-- What holds of every reason holds of each of the five. -/
theorem RefusalReason.forall_iff (p : RefusalReason → Prop) :
    (∀ r, p r) ↔ p .range ∧ p .initiator ∧ p .rights ∧ p .notifyForm ∧ p .swapAlign :=
  ⟨fun h => ⟨h _, h _, h _, h _, h _⟩, fun ⟨h1, h2, h3, h4, h5⟩ r => by cases r <;> assumption⟩

open Classical in
/-- R7: the checks are made in the order range, initiator, rights, notify form, swap alignment. -/
theorem WindowConfig.firstFailureOf_eq (w : WindowConfig) (f : ReqFrame) :
    w.firstFailureOf f =
      if w.fails f .range then some .range
      else if w.fails f .initiator then some .initiator
      else if w.fails f .rights then some .rights
      else if w.fails f .notifyForm then some .notifyForm
      else if w.fails f .swapAlign then some .swapAlign
      else none := by
  simp only [WindowConfig.firstFailureOf, WindowConfig.firstFailure, WindowConfig.trunkEnd, WindowConfig.fails,
    Nat.not_le, Bool.not_eq_true, WindowConfig.permitsOp_false_iff, notifyForm_iff, ne_eq]
  congr

/-- R7: the reason given is the first in the order of the checks. -/
theorem WindowConfig.firstFailureOf_some_iff (w : WindowConfig) (f : ReqFrame) (reason : RefusalReason) :
    w.firstFailureOf f = some reason ↔
      w.fails f reason ∧ ∀ r : RefusalReason, r.code < reason.code → ¬ w.fails f r := by
  rw [WindowConfig.firstFailureOf_eq]
  constructor
  · intro h
    split_ifs at h with h1 h2 h3 h4 h5
    all_goals
      cases h
      refine ⟨by assumption, ?_⟩
      simp [RefusalReason.forall_iff, RefusalReason.code, *]
  · rintro ⟨hf, hlow⟩
    cases reason with
    | range => rw [if_pos hf]
    | initiator => rw [if_neg (hlow .range (by decide)), if_pos hf]
    | rights => rw [if_neg (hlow .range (by decide)), if_neg (hlow .initiator (by decide)), if_pos hf]
    | notifyForm =>
      rw [if_neg (hlow .range (by decide)), if_neg (hlow .initiator (by decide)),
        if_neg (hlow .rights (by decide)), if_pos hf]
    | swapAlign =>
      rw [if_neg (hlow .range (by decide)), if_neg (hlow .initiator (by decide)),
        if_neg (hlow .rights (by decide)), if_neg (hlow .notifyForm (by decide)), if_pos hf]

/-- R13: a request is permitted when it fails none of the five checks. -/
theorem WindowConfig.firstFailureOf_none_iff (w : WindowConfig) (f : ReqFrame) :
    w.firstFailureOf f = none ↔ ∀ r, ¬ w.fails f r := by
  rw [WindowConfig.firstFailureOf_eq]
  constructor
  · intro h
    split_ifs at h with h1 h2 h3 h4 h5
    exact (RefusalReason.forall_iff _).mpr ⟨h1, h2, h3, h4, h5⟩
  · intro h
    simp only [h, if_false]

/-! ### The result of the lookup -/

theorem lookup_noMatch_iff (ws : Vector Window 8) (f : ReqFrame) :
    lookup ws f = .noMatch ↔ matchWindow ws f.address.toNat = none := by
  rcases lookup_cases ws f with ⟨h, hm⟩ | ⟨w, hm, ⟨r, -, h⟩ | ⟨-, h⟩⟩ <;> simp [h, hm]

theorem lookup_refuse_iff (ws : Vector Window 8) (f : ReqFrame) (i : WindowIdx) (reason : RefusalReason) :
    lookup ws f = .refuse i reason ↔
      matchWindow ws f.address.toNat = some i ∧ (ws[i]).config.firstFailureOf f = some reason := by
  rcases lookup_cases ws f with ⟨h, hm⟩ | ⟨w, hm, ⟨r, hf, h⟩ | ⟨hf, h⟩⟩
  · simp [h, hm]
  · rw [h, hm, Lookup.refuse.injEq, Option.some.injEq]
    refine and_congr_right ?_
    rintro rfl
    rw [WindowConfig.firstFailureOf, hf, Option.some.injEq]
  · rw [h, hm, Option.some.injEq]
    refine ⟨nofun, ?_⟩
    rintro ⟨rfl, hf'⟩
    exact absurd (hf.symm.trans hf') nofun

theorem lookup_permitted_iff (ws : Vector Window 8) (f : ReqFrame) (i : WindowIdx) (dest : Dest) :
    lookup ws f = .permitted i dest ↔
      matchWindow ws f.address.toNat = some i ∧ (ws[i]).config.firstFailureOf f = none
        ∧ dest = (ws[i]).config.dest f.address.toNat := by
  rcases lookup_cases ws f with ⟨h, hm⟩ | ⟨w, hm, ⟨r, hf, h⟩ | ⟨hf, h⟩⟩
  · simp [h, hm]
  · rw [h, hm, Option.some.injEq]
    refine ⟨nofun, ?_⟩
    rintro ⟨rfl, hf', -⟩
    exact absurd (hf.symm.trans hf') nofun
  · rw [h, hm, Lookup.permitted.injEq, Option.some.injEq]
    refine and_congr_right ?_
    rintro rfl
    rw [WindowConfig.firstFailureOf, hf, eq_comm]
    simp

/-- Settles O31: the window taken, the checks in their order and the destination, each by its own lemma. -/
theorem windowDecision : Obligations.WindowDecision := by
  intro ws f
  refine ⟨?_, fun i reason => ?_, fun i dest => ?_⟩
  · exact (lookup_noMatch_iff ws f).trans (matchWindow_none_iff ws _)
  · have h := lookup_refuse_iff ws f i reason
    rw [matchWindow_some_iff, WindowConfig.firstFailureOf_some_iff, and_assoc] at h
    exact h
  · have h := lookup_permitted_iff ws f i dest
    rw [matchWindow_some_iff, WindowConfig.firstFailureOf_none_iff, and_assoc] at h
    exact h

/-! ### The exchange, apart from the rest of the state -/

/-- The state with this exchange in its Trunk Interface. -/
def State.withExchange (s : State) (x : Option Exchange) : State :=
  { s with tif := { s.tif with exchange := x } }

@[simp] theorem State.withExchange_exchange (s : State) (x : Option Exchange) :
    (s.withExchange x).tif.exchange = x := rfl
@[simp] theorem State.withExchange_withExchange (s : State) (x y : Option Exchange) :
    (s.withExchange x).withExchange y = s.withExchange y := rfl

/-- What a claimant does does not depend on the exchange, and leaves it alone. -/
theorem State.readBack_withExchange (s : State) (x : Option Exchange) (mark : Mark) (out : SlotOutcome) :
    (s.withExchange x).readBack mark out = (s.readBack mark out).withExchange x := by
  have hc : (s.withExchange x).ctl = s.ctl := rfl
  have ht : (s.withExchange x).onTrunk = s.onTrunk := rfl
  simp only [State.readBack, hc, ht]
  repeat' split
  all_goals rfl

theorem State.requestOutcome_withExchange (s : State) (x : Option Exchange) (t : Tag) (out : SlotOutcome) :
    (s.withExchange x).requestOutcome t out = (s.requestOutcome t out).withExchange x := by
  have he : (s.withExchange x).entry t = s.entry t := rfl
  simp only [State.requestOutcome, he]
  repeat' split
  all_goals rfl

theorem State.completionOutcome_withExchange (s : State) (x : Option Exchange) (out : CompletionOutcome) :
    (s.withExchange x).completionOutcome out = (s.completionOutcome out).withExchange x := by
  have ht : (s.withExchange x).target = s.target := rfl
  simp only [State.completionOutcome, ht]
  repeat' split
  all_goals rfl

/-- What the sender does with the outcome does not depend on the exchange, and leaves it alone. -/
theorem State.handOutcome_withExchange (s : State) (x : Option Exchange) (sender : Option Origin)
    (out : SlotOutcome) :
    (s.withExchange x).handOutcome sender out = (s.handOutcome sender out).withExchange x := by
  rcases sender with _ | t | d | _
  · rfl
  · exact s.requestOutcome_withExchange x t out
  · exact s.completionOutcome_withExchange x (out.reduce d)
  · rfl

/-! ### The claim read back (R31, R59, R15) -/

/-- R59: what an accepted request adds to the service queue, the reservations and the notify holds. -/
theorem State.acceptRequest_eq (s : State) (c : Claim) (dest : Dest) :
    s.acceptRequest c dest =
      { s with
        target :=
          { s.target with
            service :=
              s.target.service ++
                [{ request := c.frame, window := c.window, dest := dest,
                   reservation := if c.frame.body.tag.isSome = true then .live 512 else .none,
                   notifyHold := dest.isNotify }]
            nonPosted := s.target.nonPosted + (if c.frame.body.tag.isSome = true then 1 else 0) }
        mailbox :=
          { s.mailbox with reserved := s.mailbox.reserved + (if dest.isNotify = true then 1 else 0) } } := by
  have hn : (if c.frame.body.tag.isSome then s.target.nonPosted + 1 else s.target.nonPosted) =
      s.target.nonPosted + (if c.frame.body.tag.isSome = true then 1 else 0) := by split <;> rfl
  cases dest <;> simp only [State.acceptRequest, hn] <;> rfl

/-- R59: the claimant reads its own ACCEPT back, in ONLINE or DRAINING. -/
theorem State.readBack_ownAccept {s : State} {c : Claim} {dest : Dest} (hd : c.decision = .accept dest)
    (ht : s.onTrunk = true) :
    s.readBack (.claim c) (.accept s.ctl.number) = s.acceptRequest c dest := by
  simp [State.readBack, hd, ht]

/-- R15: the claimant reads CONFLICT back. -/
theorem State.readBack_conflict (s : State) (c : Claim) :
    s.readBack (.claim c) .conflict = s.recordConflict c.window := rfl

/-- R31, R58: with no CONFLICT and no own ACCEPT read back, the claim has no effect. -/
theorem State.readBack_claim_unchanged {s : State} {c : Claim} {out : SlotOutcome} (hc : out ≠ .conflict)
    (ha : ¬ (out = .accept s.ctl.number ∧ (∃ dest, c.decision = .accept dest) ∧ s.onTrunk = true)) :
    s.readBack (.claim c) out = s := by
  unfold State.readBack
  dsimp only
  split
  · exact absurd rfl hc
  · rename_i n dest hd
    refine if_neg ?_
    rintro ⟨rfl, ht⟩
    exact ha ⟨rfl, ⟨dest, hd⟩, ht⟩
  · rfl

/-- A station that claims nothing in the slot reads nothing back. -/
theorem State.readBack_noClaim {mark : Mark} (h : ∀ c, mark ≠ .claim c) (s : State) (out : SlotOutcome) :
    s.readBack mark out = s := by
  cases mark with
  | claim c => exact absurd rfl (h c)
  | none => rfl
  | corrupt => rfl
  | completion => rfl

/-- R29 to R32: the slot ends. The one outcome goes to the claimant and then to the sender, and with no CORRUPT
mark waiting the exchange is over. -/
theorem exec_slotEnd {s : State} {e : Exchange} (he : s.tif.exchange = some e) (hb : e.begun = true)
    (hc : s.tif.corruptNext = false) (cells : SlotCells) :
    exec (.slotEnd cells) s =
      .next (((s.readBack e.mark cells.resolve).handOutcome e.sender cells.resolve).withExchange none) := by
  change execSlotEnd cells s = _
  simp [execSlotEnd, he, hb, hc, State.withExchange]

/-- With no own frame before the slot, the claimant alone acts. -/
theorem exec_slotEnd_noSender {s : State} {e : Exchange} (he : s.tif.exchange = some e) (hb : e.begun = true)
    (hc : s.tif.corruptNext = false) (hs : e.sender = none) (cells : SlotCells) :
    exec (.slotEnd cells) s = .next ((s.readBack e.mark cells.resolve).withExchange none) := by
  rw [exec_slotEnd he hb hc, hs]
  rfl

/-- R32: on its own request a station acts as the claimant with no frame sent, and then as the sender with no mark
driven. -/
theorem exec_slotEnd_claimantThenSender {s : State} {e : Exchange} (he : s.tif.exchange = some e)
    (hb : e.begun = true) (hc : s.tif.corruptNext = false) (cells : SlotCells) :
    ∃ t, exec (.slotEnd cells) (s.withExchange (some { e with sender := none })) = .next t ∧
      exec (.slotEnd cells) s = exec (.slotEnd cells) (t.withExchange (some { e with mark := .none })) := by
  refine ⟨(s.readBack e.mark cells.resolve).withExchange none, ?_, ?_⟩
  · rw [exec_slotEnd_noSender (s.withExchange_exchange (some { e with sender := none })) hb hc rfl,
      State.readBack_withExchange, State.withExchange_withExchange]
  · have hc' : (s.readBack e.mark cells.resolve).tif.corruptNext = false := by rw [State.readBack_tif, hc]
    rw [State.withExchange_withExchange, exec_slotEnd he hb hc,
      exec_slotEnd (State.withExchange_exchange _ (some { e with mark := .none })) hb hc',
      State.readBack_withExchange, State.handOutcome_withExchange, State.withExchange_withExchange]
    rfl

/-- Settles O41: by what the claimant reads back, and the order claimant, then sender. -/
theorem slotEndReadsBackTheClaim : Obligations.SlotEndReadsBackTheClaim := by
  refine ⟨fun cells e c s he hb hc hm hs => ?_, fun cells e s he hb hc => ⟨fun _ _ _ _ => ?_, fun hm hs => ?_⟩⟩
  · have hend := exec_slotEnd_noSender he hb hc hs cells
    have htrunk : s.ctl.station ∈ [StationState.online, .draining] ↔ s.onTrunk = true := by
      simp [State.onTrunk_iff]
    rw [hm] at hend
    refine ⟨fun dest hd hr ht => ?_, fun hr => ?_, fun hr ha => ?_⟩
    · rw [hend, hr, State.readBack_ownAccept hd (htrunk.mp ht), State.acceptRequest_eq]
      rfl
    · rw [hend, hr, State.readBack_conflict]
      rfl
    · rw [htrunk] at ha
      rw [hend, State.readBack_claim_unchanged hr ha]
      rfl
  · exact exec_slotEnd_claimantThenSender he hb hc cells
  · rw [exec_slotEnd_noSender he hb hc hs, State.readBack_noClaim hm]
    rfl

end Sys2Proof.Machine
end

section
/-! PROOFS. Chapter 2 (trunk frames and the acknowledgment slot): the outcome of a slot as read (O40), and what the
head of the response queue does with the outcome of its slot (O43). -/

namespace Sys2Proof.Machine

/-! ### The fields of a slot (R27, R29) -/

/-- R27: two fields hold complementary bits exactly when one is the complement of the other. -/
theorem eq_not_iff_bits_differ {w : Nat} (x y : BitVec w) :
    y = ~~~x ↔ ∀ i : Fin w, x.getLsbD i.val ≠ y.getLsbD i.val := by
  constructor
  · rintro rfl i
    simp
  · intro h
    refine BitVec.eq_of_getLsbD_eq fun i hi => ?_
    rw [BitVec.getLsbD_not, decide_eq_true hi, Bool.true_and]
    exact Bool.eq_not.mpr (h ⟨i, hi⟩).symm

/-- R27, R29: of two different values, each driven with its complement, some bit reads dominant in both fields,
whatever `p` and `q` the further stations drive there. -/
theorem exists_bit_dominant_in_both {w : Nat} {x y : BitVec w} (h : x ≠ y) (p q : BitVec w) :
    ∃ i : Fin w, (x &&& y &&& p).getLsbD i.val = false ∧ (~~~x &&& ~~~y &&& q).getLsbD i.val = false := by
  have hbit : ∃ i : Fin w, x.getLsbD i.val ≠ y.getLsbD i.val := by
    by_contra hall
    push Not at hall
    exact h (BitVec.eq_of_getLsbD_eq fun i hi => hall ⟨i, hi⟩)
  obtain ⟨i, hi⟩ := hbit
  rw [← Bool.eq_not] at hi
  refine ⟨i, ?_, ?_⟩ <;> simp only [BitVec.getLsbD_and, BitVec.getLsbD_not, hi]
  · rw [Bool.not_and_self, Bool.false_and]
  · simp

/-- R27, R29: so the two fields read the same there. -/
theorem exists_bit_reads_alike {w : Nat} {x y : BitVec w} (h : x ≠ y) (p q : BitVec w) :
    ∃ i : Fin w, (x &&& y &&& p).getLsbD i.val = (~~~x &&& ~~~y &&& q).getLsbD i.val :=
  let ⟨i, hfield, hcomplement⟩ := exists_bit_dominant_in_both h p q
  ⟨i, hfield.trans hcomplement.symm⟩

/-- R185: stations with different numbers drive different claimant fields. -/
theorem stationField_injective {a b : StationNo} (h : a ≠ b) :
    BitVec.ofNat 4 a.val ≠ BitVec.ofNat 4 b.val := by
  intro heq
  have hn := congrArg BitVec.toNat heq
  simp only [BitVec.toNat_ofNat] at hn
  exact h (Fin.ext (by omega))

/-! ### The rows of the outcome table (R29) -/

/-- R29: both fields of the slot read absent. -/
abbrev SlotCells.absent (c : SlotCells) : Prop :=
  (c.number = 15 ∧ c.complement = 15) ∧ (c.code = 3 ∧ c.codeComplement = 3)

/-- R29: both fields of the slot read consistent. -/
abbrev SlotCells.consistent (c : SlotCells) : Prop :=
  c.complement = ~~~c.number ∧ c.codeComplement = ~~~c.code

theorem SlotCells.consistent_iff (c : SlotCells) :
    c.consistent ↔
      (∀ i : Fin 4, c.number.getLsbD i.val ≠ c.complement.getLsbD i.val)
        ∧ ∀ i : Fin 2, c.code.getLsbD i.val ≠ c.codeComplement.getLsbD i.val :=
  and_congr (eq_not_iff_bits_differ _ _) (eq_not_iff_bits_differ _ _)

/-- A claimant field that reads absent is not consistent, so at most one row applies. -/
theorem SlotCells.consistent.not_absent {c : SlotCells} (h : c.consistent) : ¬ c.absent := by
  rintro ⟨⟨hnumber, hcomplement⟩, -⟩
  have hbits := h.1
  rw [hnumber, hcomplement] at hbits
  exact absurd hbits (by decide)

theorem SlotCells.resolve_corrupt {c : SlotCells} (h : c.corrupt = true) : c.resolve = .corrupt := if_pos h

theorem SlotCells.resolve_silent {c : SlotCells} (h : c.corrupt = false) (ha : c.absent) :
    c.resolve = .silent := by
  rw [resolve, if_neg (by simp [h]), if_pos ha]

/-- R29: a slot whose fields are consistent reads as the code of the claiming station. -/
theorem SlotCells.resolve_consistent {c : SlotCells} {n : StationNo} (h : c.corrupt = false) (hc : c.consistent)
    (hn : c.number.toNat = n.val) :
    (c.code = 0 → c.resolve = .accept n) ∧ (c.code = 1 → c.resolve = .busy n)
      ∧ (c.code = 2 → c.resolve = .refuse n) := by
  have hstation : Fin.ofNat 16 c.number.toNat = n := by rw [hn]; exact Fin.ofNat_val_eq_self n
  rw [resolve, if_neg (by simp [h]), if_neg hc.not_absent, if_pos hc, hstation]
  refine ⟨fun hcode => ?_, fun hcode => ?_, fun hcode => ?_⟩
  all_goals
    rw [hcode]
    rfl

/-- R29: any other slot reads CONFLICT. -/
theorem SlotCells.resolve_conflict {c : SlotCells} (h : c.corrupt = false) (ha : ¬ c.absent)
    (hc : ¬ (c.consistent ∧ c.code ≠ 3)) : c.resolve = .conflict := by
  rw [resolve, if_neg (by simp [h]), if_neg ha]
  by_cases hcons : c.consistent
  · have hcode : c.code = 3 := by
      by_contra hne
      exact hc ⟨hcons, hne⟩
    rw [if_pos hcons, hcode]
    rfl
  · exact if_neg hcons

/-! ### Two claimants (R29) -/

/-- R29: what is read when two stations claim, with what the `others` drive. -/
def SlotCells.twoClaims (a b : StationNo) (c d : BitVec 2) (others : SlotCells) : SlotCells :=
  ((SlotCells.claim a c).combine (SlotCells.claim b d)).combine others

/-- Neither claim drives the CORRUPT mark. -/
theorem SlotCells.twoClaims_corrupt (a b : StationNo) (c d : BitVec 2) (others : SlotCells) :
    (SlotCells.twoClaims a b c d others).corrupt = others.corrupt := rfl

/-- R29: with different numbers, a bit of the claimant field reads dominant in the number and in its complement. -/
theorem SlotCells.twoClaims_number {a b : StationNo} (h : a ≠ b) (c d : BitVec 2) (others : SlotCells) :
    ∃ i : Fin 4, (SlotCells.twoClaims a b c d others).number.getLsbD i.val = false
      ∧ (SlotCells.twoClaims a b c d others).complement.getLsbD i.val = false :=
  exists_bit_dominant_in_both (stationField_injective h) _ _

/-- R29: with different numbers, the slot reads CONFLICT when nobody drives the CORRUPT mark. -/
theorem SlotCells.resolve_twoClaims {a b : StationNo} (h : a ≠ b) (c d : BitVec 2) (others : SlotCells) :
    (SlotCells.twoClaims a b c d others).resolve =
      if others.corrupt = true then .corrupt else .conflict := by
  rw [← twoClaims_corrupt a b c d others]
  split
  · next hmark => exact resolve_corrupt hmark
  · next hmark =>
    obtain ⟨i, hnumber, hcomplement⟩ := twoClaims_number h c d others
    refine resolve_conflict (Bool.eq_false_iff.mpr hmark) ?_ ?_
    · rintro ⟨⟨habsent, -⟩, -⟩
      have hones : ∀ i : Fin 4, (15 : BitVec 4).getLsbD i.val = true := by decide
      rw [habsent, hones] at hnumber
      cases hnumber
    · rintro ⟨hcons, -⟩
      exact ((consistent_iff _).mp hcons).1 i (hnumber.trans hcomplement.symm)

/-- Settles O40: each row of the table by its lemma, and two claims by a bit that reads dominant twice. -/
theorem slotOutcomes : Obligations.SlotOutcomes := by
  refine ⟨fun c => ⟨fun h => ?_, fun h hnumber hcode => ?_, fun n h hcons hn => ?_, fun h ha hrow => ?_⟩,
    fun a b c d others h => ?_, fun a b c d others => ⟨fun h => ?_, fun h => ?_⟩⟩
  · exact SlotCells.resolve_corrupt h
  · exact SlotCells.resolve_silent h ⟨hnumber, hcode⟩
  · exact SlotCells.resolve_consistent h (c.consistent_iff.mpr hcons) hn
  · exact SlotCells.resolve_conflict h ha fun ⟨hcons, hcode⟩ => hrow ⟨c.consistent_iff.mp hcons, hcode⟩
  · exact SlotCells.resolve_twoClaims h c d others
  · exact exists_bit_reads_alike (stationField_injective h) _ _
  · exact exists_bit_reads_alike h _ _

/-! ### A response dropped (R66) -/

/-- R66: a response dropped raises RESPONSE_DROPPED and counts once, up to 65535. -/
theorem EventUnit.responsesDropped_one (u : EventUnit) :
    u.responsesDropped 1 =
      { u.raiseTrunk .responseDropped with
        counters :=
          { u.counters with
            responsesDropped := BitVec.ofNat 16 (min 65535 (u.counters.responsesDropped.toNat + 1)) } } := rfl

/-- R66: the head of the response queue is removed, and its reservation released. -/
theorem State.removeResponse_head {s : State} {r : ResponseEntry} {rest : List ResponseEntry}
    (h : s.target.responses = r :: rest) :
    s.removeResponse 0 =
      { s with target := { s.target with responses := rest, nonPosted := s.target.nonPosted - 1 } } := by
  simp [State.removeResponse, h]

/-- R66: the head of the response queue is dropped. -/
theorem State.dropResponse_head {s : State} {r : ResponseEntry} {rest : List ResponseEntry}
    (h : s.target.responses = r :: rest) :
    s.dropResponse 0 =
      { s with
        target := { s.target with responses := rest, nonPosted := s.target.nonPosted - 1 }
        events := s.events.responsesDropped 1 } := by
  rw [State.dropResponse, State.removeResponse_head h]
  rfl

/-! ### The outcome of a completion's slot (R34, R66, R68) -/

/-- R34: an outcome other than the destination's ACCEPT and CORRUPT is reduced to SILENT. -/
theorem SlotOutcome.reduce_silent {d : StationNo} {out : SlotOutcome} (ha : out ≠ .accept d)
    (hc : out ≠ .corrupt) : out.reduce d = .silent := by
  cases out with
  | accept n => exact if_neg fun hn => ha (congrArg _ hn)
  | corrupt => exact absurd rfl hc
  | busy n => rfl
  | refuse n => rfl
  | conflict => rfl
  | silent => rfl

@[simp] theorem SlotOutcome.reduce_accept (d : StationNo) :
    (SlotOutcome.accept d).reduce d = .accept := if_pos rfl

/-- R68: with no response left, the outcome is ignored. -/
theorem State.completionOutcome_nil {s : State} (h : s.target.responses = []) (out : CompletionOutcome) :
    s.completionOutcome out = s := by
  simp [State.completionOutcome, h]

section HeadOfQueue

variable {s : State} {r : ResponseEntry} {rest : List ResponseEntry}

/-- R68: when the head was not sent, the response of the slot is gone, and the outcome is ignored. -/
theorem State.completionOutcome_notSent (h : s.target.responses = r :: rest) (ht : r.onTrunk = false)
    (out : CompletionOutcome) : s.completionOutcome out = s := by
  simp [State.completionOutcome, h, ht]

/-- R66: delivered on ACCEPT. -/
theorem State.completionOutcome_accept (h : s.target.responses = r :: rest) (ht : r.onTrunk = true) :
    s.completionOutcome .accept = s.removeResponse 0 := by
  simp [State.completionOutcome, h, ht]

/-- R66: dropped on SILENT. -/
theorem State.completionOutcome_silent (h : s.target.responses = r :: rest) (ht : r.onTrunk = true) :
    s.completionOutcome .silent = s.dropResponse 0 := by
  simp [State.completionOutcome, h, ht]

/-- R66: kept for a resend on CORRUPT, up to three times. -/
theorem State.completionOutcome_resend (h : s.target.responses = r :: rest) (ht : r.onTrunk = true)
    (hr : r.resends < 3) :
    s.completionOutcome .corrupt =
      { s with
        target :=
          { s.target with
            responses := { r with resends := r.resends + 1, onTrunk := false } :: rest } } := by
  simp [State.completionOutcome, h, ht, corruptResendLimit, hr]

/-- R66: dropped on the fourth CORRUPT. -/
theorem State.completionOutcome_exhausted (h : s.target.responses = r :: rest) (ht : r.onTrunk = true)
    (hr : 3 ≤ r.resends) : s.completionOutcome .corrupt = s.dropResponse 0 := by
  simp [State.completionOutcome, h, ht, corruptResendLimit, Nat.not_lt.mpr hr]

end HeadOfQueue

/-- R34: after an own completion with no claim in its slot, the reduced outcome goes to the response queue. -/
theorem exec_slotEnd_completion {s : State} {e : Exchange} {d : StationNo} (he : s.tif.exchange = some e)
    (hb : e.begun = true) (hc : s.tif.corruptNext = false) (hm : ∀ c, e.mark ≠ .claim c)
    (hs : e.sender = some (.completion d)) (cells : SlotCells) :
    exec (.slotEnd cells) s =
      .next ((s.completionOutcome (cells.resolve.reduce d)).withExchange none) := by
  rw [exec_slotEnd he hb hc, State.readBack_noClaim hm, hs]
  rfl

/-- Settles O43: by the reduced outcome, and what it does to the head of the response queue. -/
theorem slotEndGivesTheResponseItsOutcome : Obligations.SlotEndGivesTheResponseItsOutcome := by
  intro cells e d s he hb hc hm hs
  have hend := exec_slotEnd_completion he hb hc hm hs cells
  refine ⟨fun hnil => ?_, fun r rest hq => ⟨fun ht => ?_, fun ht => ⟨fun hr => ?_, fun hr hlt => ?_,
    fun hr hle => ?_, fun ha hr => ?_⟩⟩⟩
  · rw [hend, State.completionOutcome_nil hnil]
    rfl
  · rw [hend, State.completionOutcome_notSent hq ht]
    rfl
  · rw [hend, hr, SlotOutcome.reduce_accept, State.completionOutcome_accept hq ht, State.removeResponse_head hq]
    rfl
  · rw [hend, hr, SlotOutcome.reduce, State.completionOutcome_resend hq ht hlt]
    rfl
  · rw [hend, hr, SlotOutcome.reduce, State.completionOutcome_exhausted hq ht hle, State.dropResponse_head hq,
      EventUnit.responsesDropped_one]
    rfl
  · rw [hend, SlotOutcome.reduce_silent ha hr, State.completionOutcome_silent hq ht, State.dropResponse_head hq,
      EventUnit.responsesDropped_one]
    rfl

end Sys2Proof.Machine
end

section
/-! PROOFS. Chapter 4 (the Target Engine): what the notice that a station is lost does to its responses, to the ORT
entries awaiting it and to the presence table (O36). -/

namespace Sys2Proof.Machine

/-! ### The notice at the Target Engine (R69) -/

/-- R69: the queue is shorter by the responses for station `st`. -/
theorem length_sub_keptResponses (rs : List ResponseEntry) (st : StationNo) :
    rs.length - (rs.filter (fun r => decide (r.destination ≠ st))).length
      = rs.countP (fun r => decide (r.destination = st)) := by
  have hsplit := rs.length_eq_countP_add_countP (fun r => decide (r.destination = st))
  simp only [List.countP_eq_length_filter, ne_eq, decide_not, decide_eq_true_eq] at hsplit ⊢
  omega

/-- R69: every response for station `st` leaves the queue, its reservation is released, and it is counted. -/
theorem State.targetStationLost_eq (s : State) (st : StationNo) :
    s.targetStationLost st =
      { s with
        target :=
          { s.target with
            responses := s.target.responses.filter (fun r => decide (r.destination ≠ st))
            nonPosted := s.target.nonPosted - s.target.responses.countP (fun r => decide (r.destination = st)) }
        events :=
          s.events.responsesDropped (s.target.responses.countP (fun r => decide (r.destination = st))) } := by
  rw [← length_sub_keptResponses]
  rfl

/-! ### The notice at the ORT (R106) -/

/-- R106: an entry that awaits the lost station becomes DONE(TARGET_LOST). -/
theorem State.ortStationLost_entry_awaiting {s : State} {st : StationNo} {g : Tag}
    (h : (∃ k, (s.entry g).state = .awaiting k) ∧ (s.entry g).target = some st) :
    (s.ortStationLost st).entry g = (s.entry g).finish .targetLost := by
  rw [State.ortStationLost_entry, if_pos (((s.entry g).awaits_iff st).mpr h)]

/-- R106: an entry that does not await the lost station stays as it is. -/
theorem State.ortStationLost_entry_other {s : State} {st : StationNo} {g : Tag}
    (h : ¬ ((∃ k, (s.entry g).state = .awaiting k) ∧ (s.entry g).target = some st)) :
    (s.ortStationLost st).entry g = s.entry g := by
  rw [State.ortStationLost_entry, if_neg (mt ((s.entry g).awaits_iff st).mp h)]

/-- R106: the tags that join the retire list stand in issue order, and are those of the awaiting entries. -/
theorem State.ortStationLost_retire (s : State) (st : StationNo) :
    ∃ joined : List Tag, (s.ortStationLost st).completion.retire = s.completion.retire ++ joined ∧
      joined.Sublist s.ort.issueOrder ∧
      ∀ g, g ∈ joined ↔
        g ∈ s.ort.issueOrder ∧ (∃ k, (s.entry g).state = .awaiting k) ∧ (s.entry g).target = some st := by
  refine ⟨s.ort.issueOrder.filter (fun g => (s.entry g).awaits st), rfl, List.filter_sublist, fun g => ?_⟩
  rw [List.mem_filter, OrtEntry.awaits_iff]

/-! ### The row PRESENCE_TIMEOUT (R48, R50) -/

/-- R50: the Presence Monitor makes the entry of station `st` ABSENT and raises PRESENCE_CHANGE. -/
def State.presenceLost (s : State) (st : StationNo) : State :=
  { s with
    presence := { s.presence with table := s.presence.table.set st.val .absent st.isLt }
    events := s.events.raiseTrunk .presenceChange }

/-- Log entry 7: an entry that is not PRESENT with no tick remaining does not expire. -/
theorem exec_presenceTimeout_notExpired {s : State} {st : StationNo} (h : s.presence.table[st] ≠ .present 0) :
    exec (.presenceTimeout st) s = .next s := by
  change execPresenceTimeout st s = .next s
  unfold execPresenceTimeout
  split
  case h_1 hzero => exact absurd hzero h
  all_goals rfl

/-- R50: a timer that expires while the receiver is on gives the notice to the ORT and to the Target Engine. -/
theorem exec_presenceTimeout_expired {s : State} {st : StationNo} (h : s.presence.table[st] = .present 0)
    (hon : s.receiverOn = true) :
    exec (.presenceTimeout st) s = .next (((s.presenceLost st).ortStationLost st).targetStationLost st) := by
  change execPresenceTimeout st s = _
  rw [execPresenceTimeout, h]
  simp only [hon, if_true]
  rfl

/-- Settles O36: the notice passes from the Presence Monitor to the ORT and then to the Target Engine, and each block
changes only its own part. -/
theorem presenceTimeoutLosesTheStation : Obligations.PresenceTimeoutLosesTheStation := by
  intro st s
  refine ⟨exec_presenceTimeout_notExpired, fun hzero hstation => ?_⟩
  have hexec := exec_presenceTimeout_expired hzero (s.receiverOn_iff.mpr hstation)
  rw [State.targetStationLost_eq] at hexec
  exact ⟨_, hexec, rfl, fun g => State.ortStationLost_entry_awaiting (s := s.presenceLost st),
    fun g => State.ortStationLost_entry_other (s := s.presenceLost st), rfl,
    (s.presenceLost st).ortStationLost_retire st, rfl, ⟨rfl, rfl⟩, rfl⟩

end Sys2Proof.Machine
end

section
/-! PROOFS. Chapter 10 (the host port): the operands of a host command are read back from their bytes, so the
row of a command is the command taken with its bytes. O60 rests on it. -/

namespace Sys2Proof.Machine

/-! ### Operands read back from their bytes (R186) -/

/-- R186: a 16-bit number is read back from its two bytes. -/
theorem num2_of_bytes (v : BitVec 16) : v.extractLsb' 8 8 ++ v.extractLsb' 0 8 = v := by
  rw [BitVec.extractLsb'_append_extractLsb'_eq_extractLsb' (by rfl)]
  exact BitVec.extractLsb'_eq_self

/-- R186: a 24-bit number is read back from its three bytes. -/
theorem num3_of_bytes (v : BitVec 24) : v.extractLsb' 16 8 ++ v.extractLsb' 8 8 ++ v.extractLsb' 0 8 = v := by
  iterate 2 rw [BitVec.extractLsb'_append_extractLsb'_eq_extractLsb' (by rfl)]
  exact BitVec.extractLsb'_eq_self

/-- R186: a 32-bit number is read back from its four bytes. -/
theorem num4_of_bytes (v : BitVec 32) :
    v.extractLsb' 24 8 ++ v.extractLsb' 16 8 ++ v.extractLsb' 8 8 ++ v.extractLsb' 0 8 = v := by
  iterate 3 rw [BitVec.extractLsb'_append_extractLsb'_eq_extractLsb' (by rfl)]
  exact BitVec.extractLsb'_eq_self

theorem Word4.toList_eq (v : Word4) : v.toList = [v[0], v[1], v[2], v[3]] := by
  refine List.ext_getElem (by simp) fun i hi _ => ?_
  rw [Vector.length_toList] at hi
  interval_cases i <;> simp

theorem Word4.eq_of_bytes (v : Word4) : #v[v[0], v[1], v[2], v[3]] = v := by
  ext i hi
  interval_cases i <;> simp

/-- R186: a SUBMIT descriptor is read back from its 19 bytes. -/
theorem RawDescriptor.ofBytes_bytes (d : RawDescriptor) : RawDescriptor.ofBytes d.bytes = d := by
  simp [RawDescriptor.ofBytes, RawDescriptor.bytes, byteAt, num4At, num3At, num2At, word4At, bytes4, bytes3, bytes2,
    Word4.toList_eq, Word4.eq_of_bytes, num2_of_bytes, num3_of_bytes, num4_of_bytes d.address]

/-- R186: a window entry is read back from its 13 bytes, behind the selector and the index. -/
theorem RawWindow.ofBytesAt_bytes (sel index : Byte) (w : RawWindow) :
    RawWindow.ofBytesAt (sel :: index :: w.bytes) 2 = w := by
  simp [RawWindow.ofBytesAt, RawWindow.bytes, byteAt, num4At, num3At, num2At, bytes4, bytes3, bytes2, num2_of_bytes,
    num3_of_bytes, num4_of_bytes w.trunkBase]

/-- R186: a selector that names no item is none of the four. -/
theorem not_namesItem {sel : Byte} (h : (!namesItem sel) = true) :
    sel ≠ 1#8 ∧ sel ≠ 2#8 ∧ sel ≠ 3#8 ∧ sel ≠ 4#8 := by
  simpa [namesItem, and_assoc] using h

/-- R186: the operand of a well-formed CONFIG_READ is read back from its bytes. -/
theorem ConfigItem.ofBytes_bytes (x : ConfigItem) (h : x.wf = true) : ConfigItem.ofBytes x.bytes = x := by
  cases x
  case noItem sel =>
    obtain ⟨h1, h2, h3, h4⟩ := not_namesItem h
    simp [ConfigItem.ofBytes, ConfigItem.bytes, byteAt, h1, h2, h3, h4]
  all_goals rfl

/-- R186: the operand of a well-formed CONFIG_WRITE is read back from its bytes. -/
theorem ConfigValue.ofBytes_bytes (x : ConfigValue) (h : x.wf = true) : ConfigValue.ofBytes x.bytes = x := by
  cases x
  case noItem sel =>
    obtain ⟨h1, h2, h3, h4⟩ := not_namesItem h
    simp [ConfigValue.ofBytes, ConfigValue.bytes, byteAt, h1, h2, h3, h4]
  case window index w => exact congrArg (ConfigValue.window index) (RawWindow.ofBytesAt_bytes _ index w)
  case ct v => exact congrArg ConfigValue.ct (num2_of_bytes v)
  all_goals rfl

/-! ### The rows of the host commands (log entry 9) -/

/-- The row of a host command, when its frame is open for it, does what the command does that is taken
with the row's operand bytes. -/
theorem exec_hostRow {i : Instr} {c : HostCode} {ops refused : List Byte} (h : hostRow i = some (c, ops, refused))
    (s : State) :
    exec i s = .next (if i.wf && s.takes c ops then s.takeByCode c ops else s) := by
  cases i
  case submit d =>
    cases h
    simp only [State.takeByCode, RawDescriptor.ofBytes_bytes]
    rfl
  case clearCounters v =>
    cases h
    have hv : num2At (bytes2 v) 0 = v := num2_of_bytes v
    simp only [State.takeByCode, hv]
    rfl
  case configRead x =>
    cases h
    by_cases hw : x.wf = true
    · simp only [State.takeByCode, ConfigItem.ofBytes_bytes x hw]
      rfl
    · simp [exec, execConfigRead, Instr.wf, hw]
  case configWrite x =>
    cases h
    by_cases hw : x.wf = true
    · simp only [State.takeByCode, ConfigValue.ofBytes_bytes x hw]
      rfl
    · simp [exec, execConfigWrite, Instr.wf, hw]
  all_goals cases h <;> rfl

end Sys2Proof.Machine
end

section
/-! PROOFS. Chapter 5 (the request queue and the Issue Engine): the result of a SUBMIT (O16), and the issue of the
head descriptor (O44). -/

namespace Sys2Proof.Machine

/-! ### SUBMIT (R75, R76) -/

/-- R186: the op code of a descriptor stands in the lower three bits of its flags. -/
theorem RawDescriptor.op_eq_some_iff (d : RawDescriptor) (op : Op) :
    d.op = some op ↔ d.flags.toNat % 8 = op.byte.toNat := by
  have hcode : (d.flags &&& 0x07).toNat = d.flags.toNat % 8 := by
    rw [BitVec.toNat_and]
    exact Nat.and_two_pow_sub_one_eq_mod d.flags.toNat 3
  unfold RawDescriptor.op
  rw [hcode]
  split
  all_goals cases op <;> simp_all [Op.byte]

/-- R76: the conditions on the bytes of a descriptor, for the op it names. -/
theorem RawDescriptor.validFor_iff (d : RawDescriptor) (op : Op) :
    d.validFor op = true ↔
      1 ≤ d.length.toNat ∧ d.length.toNat ≤ 64
        ∧ (op = .swap → d.length.toNat = 4 ∧ d.address.toNat % 4 = 0)
        ∧ d.address.toNat + d.length.toNat ≤ 4294967296
        ∧ d.localAddress.toNat + d.length.toNat ≤ 262144 := by
  simp only [RawDescriptor.validFor, Bool.and_eq_true, Bool.or_eq_true, decide_eq_true_eq, and_assoc, imp_iff_not_or,
    ne_eq]
  rfl

/-- R76: a descriptor is valid for an op when it names that op and meets its conditions. -/
theorem RawDescriptor.meets_iff (d : RawDescriptor) (op : Op) :
    d.meets op ↔ d.op = some op ∧ d.validFor op = true := by
  rw [d.op_eq_some_iff, d.validFor_iff]
  cases op <;> rfl

/-- R73, R76: a valid descriptor is read as the one that SUBMIT queues. -/
theorem RawDescriptor.valid?_of_meets {d : RawDescriptor} {op : Op} (h : d.meets op) :
    d.valid? = some (d.queued op) := by
  obtain ⟨hop, hvalid⟩ := (d.meets_iff op).mp h
  simp only [RawDescriptor.valid?, hop, hvalid, if_true]
  rfl

/-- R76: a descriptor that is valid for no op is not read. -/
theorem RawDescriptor.valid?_of_not_meets {d : RawDescriptor} (h : ∀ op, ¬ d.meets op) : d.valid? = none := by
  unfold RawDescriptor.valid?
  split
  · rfl
  · next op hop => exact if_neg fun hvalid => h op ((d.meets_iff op).mpr ⟨hop, hvalid⟩)

/-- R154: a station open for SUBMIT takes it. -/
theorem exec_submit {d : RawDescriptor} {s : State} (h : s.openFor .submit d.bytes) :
    exec (.submit d) s = .next (s.takeSubmit d) := by
  have htakes : s.takes .submit d.bytes = true :=
    State.takes_of_openFor h (hostRow_operandsWhole (i := .submit d) rfl rfl)
  exact congrArg Host.Outcome.next (if_pos htakes)

/-- Settles O16: the station state is asked first (R158), then the descriptor (R76), then the queue (R77). -/
theorem submitDecides : Obligations.SubmitDecides := by
  intro d s hopen
  refine ⟨fun hrefused => ?_, fun hpermitted =>
    ⟨fun hbad => ?_, fun op hmeets => ⟨fun hfull => ?_, fun hroom => ?_⟩⟩⟩
  · have hp : HostCode.submit.permitted s.ctl.station = false := by
      rw [HostCode.permitted_eq]
      exact decide_eq_false (not_not_intro hrefused)
    rw [exec_submit hopen, State.takeSubmit, State.ifPermitted_of_refused hp]
    rfl
  all_goals
    have hp : HostCode.submit.permitted s.ctl.station = true := by
      rw [HostCode.permitted_eq]
      revert hpermitted
      cases s.ctl.station <;> decide
    rw [exec_submit hopen, State.takeSubmit, State.ifPermitted_of_permitted hp]
  · rw [RawDescriptor.valid?_of_not_meets hbad]
    rfl
  · rw [RawDescriptor.valid?_of_meets hmeets]
    exact congrArg Host.Outcome.next (if_pos hfull)
  · rw [RawDescriptor.valid?_of_meets hmeets]
    exact congrArg Host.Outcome.next (if_neg (Nat.not_le.mpr hroom))

/-! ### ISSUE (R80 to R84) -/

/-- R73: the ops whose data is fetched. -/
theorem Op.fetches_iff (op : Op) : op.fetches = true ↔ op = .write ∨ op = .writeAcked := by
  cases op <;> simp [Op.fetches]

/-- R80, R82, R83: the conditions of an issue, apart from the free tag. -/
theorem State.mayIssue_iff (s : State) (d : Descriptor) :
    s.mayIssue d = true ↔
      s.ctl.station = .online
        ∧ (d.fence = true →
            (∀ t, (s.entry t).state = .free ∨ ∃ k, (s.entry t).state = .stale k) ∧ s.completion.retire = [])
        ∧ (d.op = .write ∨ d.op = .writeAcked → ∀ t, (s.entry t).state ≠ .fetching) := by
  rw [← Op.fetches_iff, ← State.fenceMet_iff]
  have hfetch : (∀ t, (s.entry t).state ≠ .fetching) ↔ s.fetching = false := by
    rw [← Bool.not_eq_true, State.fetching_iff]
    push Not
    rfl
  simp [State.mayIssue, hfetch, imp_iff_not_or, and_assoc]

/-- R80: everything ISSUE can do: nothing, or issue the head descriptor into the lowest FREE entry. -/
theorem execIssue_cases {s t : State} (h : execIssue s = .next t) :
    t = s ∨ ∃ d rest g, s.issue.requestQueue = d :: rest ∧ s.lowestFree = some g ∧ s.mayIssue d = true
      ∧ t = s.issueInto g d rest := by
  unfold execIssue at h
  injection h with h
  subst h
  split
  · next d rest g hqueue hfree =>
    split
    · next hmay => exact .inr ⟨d, rest, g, hqueue, hfree, hmay, rfl⟩
    · exact .inl rfl
  · exact .inl rfl

/-- R80: with its conditions met, ISSUE issues. -/
theorem execIssue_of_may {s : State} {d : Descriptor} {rest : List Descriptor} {g : Tag}
    (hqueue : s.issue.requestQueue = d :: rest) (hfree : s.lowestFree = some g) (hmay : s.mayIssue d = true) :
    execIssue s = .next (s.issueInto g d rest) := by
  simp [execIssue, hqueue, hfree, hmay]

/-- R80: with a condition not met, ISSUE waits. -/
theorem execIssue_waits {s : State}
    (h : ∀ d rest g, s.issue.requestQueue = d :: rest → s.lowestFree = some g → s.mayIssue d = false) :
    execIssue s = .next s := by
  obtain heq | ⟨d, rest, g, hqueue, hfree, hmay, -⟩ := execIssue_cases (s := s) rfl
  · exact congrArg Host.Outcome.next heq
  · exact absurd hmay (by simp [h d rest g hqueue hfree])

/-- R84: what an issue writes into the entry, field by field. -/
theorem State.issueInto_eq (s : State) (t : Tag) (d : Descriptor) (rest : List Descriptor) :
    s.issueInto t d rest =
      { s with
        ort :=
          { entries := s.ort.entries.set t.val
              { state := if d.op = .write ∨ d.op = .writeAcked then .fetching else .ready
                op := d.op, urgent := d.urgent, address := d.address, length := d.length
                localAddress := d.localAddress, cookie := d.cookie, compareValue := d.compareValue
                newValue := d.newValue, target := none, busyRetries := 0, corruptResends := 0
                buffer := [], endingMark := false, result := none, oldValue := none
                swapped := none } t.isLt
            issueOrder := s.ort.issueOrder ++ [t] }
        issue := { requestQueue := rest, unsent := s.issue.unsent ++ [t] } } := by
  simp only [State.issueInto, issuedEntry, OrtEntry.blank, Op.fetches_iff]

/-- Settles O44: an issue needs a descriptor, the conditions of `mayIssue_iff` and a FREE entry. -/
theorem issueTakesTheLowestFreeTag : Obligations.IssueTakesTheLowestFreeTag := by
  intro s
  refine ⟨fun hempty => ?_, fun d rest hqueue => ⟨fun hnot => ?_, fun t hmay hfree hlowest => ?_⟩⟩
  · exact execIssue_waits fun d rest g hqueue => by simp [hempty] at hqueue
  · refine execIssue_waits fun d' rest' g hqueue' hfree => Bool.eq_false_iff.mpr fun hmay => hnot ?_
    obtain ⟨rfl, -⟩ := List.cons.inj (hqueue.symm.trans hqueue')
    obtain ⟨honline, hfence, hfetch⟩ := (s.mayIssue_iff d).mp hmay
    exact ⟨honline, ⟨g, ((s.lowestFree_iff g).mp hfree).1⟩, hfence, hfetch⟩
  · obtain ⟨honline, -, hfence, hfetch⟩ := hmay
    rw [← State.issueInto_eq]
    exact execIssue_of_may hqueue ((s.lowestFree_iff t).mpr ⟨hfree, hlowest⟩)
      ((s.mayIssue_iff d).mpr ⟨honline, hfence, hfetch⟩)

end Sys2Proof.Machine
end

section
/-! PROOFS. Chapter 5 (the send order): what the send-order law reads, and what keeps it: an entry issued behind the
others, the frame started of the first entry of the unsent list, and every operation that changes neither the wire nor
the order. -/

namespace Sys2Proof.Machine

/-! ### What the send-order law reads (R89) -/

/-- R89: one entry was issued before another when the two stand so in the issue order. -/
theorem State.issuedBefore_iff (s : State) (t u : Tag) : s.issuedBefore t u ↔ [t, u].Sublist s.ort.issueOrder := by
  constructor
  · rintro ⟨a, b, c, h⟩
    rw [h, List.append_assoc]
    refine List.Sublist.trans ?_ (List.sublist_append_right a _)
    exact (List.singleton_sublist.mpr (by simp)).cons_cons t
  · intro h
    obtain ⟨front, back, horder, ht, hu⟩ := List.cons_sublist_iff.mp h
    obtain ⟨a, b, rfl⟩ := List.append_of_mem ht
    obtain ⟨b', c, rfl⟩ := List.append_of_mem (List.singleton_sublist.mp hu)
    exact ⟨a, b ++ b', c, by simp [horder]⟩

/-- From `s` to `t` nothing happens that the send-order law could forbid: the same own frame is on the wire, no entry
becomes FETCHING, READY or HOLD or is issued, and on the trunk a READY entry stays so. -/
structure OrderKept (s t : State) : Prop where
  wire : t.tif.tx = s.tif.tx
  trunk : t.onTrunk = true → s.onTrunk = true
  ready : t.onTrunk = true → ∀ g, (s.entry g).state = .ready → (t.entry g).state = .ready
  unsent : ∀ u, (t.entry u).unsentState = true → (s.entry u).unsentState = true
  order : t.ort.issueOrder.Sublist s.ort.issueOrder

namespace OrderKept

theorem refl (s : State) : OrderKept s s := ⟨rfl, id, fun _ _ => id, fun _ => id, .refl _⟩

theorem trans {s t u : State} (h : OrderKept s t) (k : OrderKept t u) : OrderKept s u where
  wire := k.wire.trans h.wire
  trunk hon := h.trunk (k.trunk hon)
  ready hon g hg := k.ready hon g (h.ready (k.trunk hon) g hg)
  unsent u hu := h.unsent u (k.unsent u hu)
  order := k.order.trans h.order

/-- A step that leaves the wire and the ORT alone, and brings the station on the trunk from nowhere else. -/
theorem of_ort_eq {s t : State} (wire : t.tif.tx = s.tif.tx) (ort : t.ort = s.ort)
    (trunk : t.onTrunk = true → s.onTrunk = true) : OrderKept s t := by
  have entry : ∀ g, t.entry g = s.entry g := fun g => by rw [State.entry, State.entry, ort]
  exact ⟨wire, trunk, fun _ g => by simp [entry], fun u => by simp [entry], by rw [ort]⟩

/-- A step of the Event Unit. -/
theorem onEvents {s t : State} (h : OrderKept s t) (f : EventUnit → EventUnit) : OrderKept s (t.onEvents f) :=
  h.trans (of_ort_eq rfl rfl id)

/-- A step that changes one entry. -/
theorem of_entry {s t : State} {g : Tag} {e : OrtEntry} (wire : t.tif.tx = s.tif.tx)
    (station : t.ctl.station = s.ctl.station) (entry : ∀ u, t.entry u = if u = g then e else s.entry u)
    (order : t.ort.issueOrder.Sublist s.ort.issueOrder) (ready : (s.entry g).state = .ready → e.state = .ready)
    (unsent : e.unsentState = true → (s.entry g).unsentState = true) : OrderKept s t where
  wire := wire
  trunk hon := by rwa [State.onTrunk, ← station]
  ready _ u hu := by
    rw [entry]
    split
    · next h => exact ready (h ▸ hu)
    · exact hu
  unsent u hu := by
    rw [entry] at hu
    split at hu
    · next h => exact h ▸ unsent hu
    · exact hu
  order := order

theorem setEntry {s : State} {g : Tag} {e : OrtEntry} (ready : (s.entry g).state = .ready → e.state = .ready)
    (unsent : e.unsentState = true → (s.entry g).unsentState = true) : OrderKept s (s.setEntry g e) :=
  of_entry rfl rfl (fun u => s.setEntry_entry g u e) (.refl _) ready unsent

/-- R109: an entry that is not READY enters DONE. -/
theorem enterDone {s : State} {g : Tag} (h : (s.entry g).state ≠ .ready) (e : OrtEntry) (st : Status) :
    OrderKept s (s.enterDone g e st) :=
  of_entry rfl rfl (fun u => s.enterDone_entry g u e st) (.refl _) (fun hr => absurd hr h) nofun

/-- An entry that is not READY becomes FREE. -/
theorem freeEntry {s : State} {g : Tag} (h : (s.entry g).state ≠ .ready) : OrderKept s (s.freeEntry g) :=
  of_entry rfl rfl (fun u => s.freeEntry_entry g u) List.filter_sublist (fun hr => absurd hr h) nofun

/-- R170: a held station does nothing. -/
theorem unlessHeld {s : State} {f : State → State} (h : OrderKept s (f s)) : OrderKept s (s.unlessHeld f) := by
  unfold State.unlessHeld
  split
  · exact .refl s
  · exact h

/-- A step that leaves the station off the trunk. -/
theorem offTrunk {s t : State} (wire : t.tif.tx = s.tif.tx) (off : t.onTrunk = false)
    (unsent : ∀ u, (t.entry u).unsentState = true → (s.entry u).unsentState = true)
    (order : t.ort.issueOrder.Sublist s.ort.issueOrder) : OrderKept s t where
  wire := wire
  trunk hon := by simp [off] at hon
  ready hon := by simp [off] at hon
  unsent := unsent
  order := order

end OrderKept

/-! ### The laws through a step that keeps the order -/

/-- With no own frame on the wire the send-order law asks nothing. -/
theorem SendOrder.of_silent {t : State} (h : t.tif.tx = none) : SendOrder t where
  ready f g htx := by simp [h] at htx
  earlier f g htx := by simp [h] at htx

theorem SendOrder.of_kept {s t : State} (h : SendOrder s) (k : OrderKept s t) : SendOrder t where
  ready f g htx hon := k.ready hon g (h.ready f g (k.wire ▸ htx) (k.trunk hon))
  earlier f g htx u hu := by
    rw [State.issuedBefore_iff] at hu
    have hs := h.earlier f g (k.wire ▸ htx) u ((s.issuedBefore_iff u g).mpr (hu.trans k.order))
    exact Bool.eq_false_iff.mpr fun hun => by simp [k.unsent u hun] at hs

/-- R84, R89: an entry is issued behind all the others, so before none. -/
theorem SendOrder.issueInto {s : State} (ort : OrtLaw s) (h : SendOrder s) (hon : s.onTrunk = true) {t : Tag}
    (hfree : (s.entry t).state = .free) (d : Descriptor) (rest : List Descriptor) :
    SendOrder (s.issueInto t d rest) := by
  have hnew : t ∉ s.ort.issueOrder := fun ht => (ort.ordered t).mp ht hfree
  have hready : ∀ f g, s.tif.tx = some ⟨f, .request g⟩ → g ≠ t ∧ (s.entry g).state = .ready := by
    intro f g htx
    have hg := h.ready f g htx hon
    exact ⟨fun heq => by simp [← heq, hg] at hfree, hg⟩
  refine ⟨fun f g htx _ => ?_, fun f g htx u hu => ?_⟩
  · obtain ⟨hne, hg⟩ := hready f g htx
    rw [State.issueInto_entry, if_neg hne, hg]
  · obtain ⟨hne, -⟩ := hready f g htx
    obtain ⟨a, b, c, horder⟩ := hu
    have horder' : s.ort.issueOrder ++ [t] = a ++ u :: b ++ g :: c := horder
    obtain rfl | ⟨c', x, rfl⟩ := List.eq_nil_or_concat c
    · obtain ⟨-, hlast⟩ := List.append_inj' horder' rfl
      simp [Ne.symm hne] at hlast
    · obtain ⟨hs, -⟩ : s.ort.issueOrder = a ++ u :: b ++ g :: c' ∧ [t] = [x] := by
        refine List.append_inj' ?_ rfl
        simpa using horder'
      have hut : u ≠ t := fun heq => hnew (by simp [hs, heq])
      rw [State.issueInto_entry, if_neg hut]
      exact h.earlier f g htx u ⟨a, b, c', hs⟩

/-- R39: what a station starts in its slot. -/
theorem State.offer_cases {s : State} {slot : Fin 48} {tx : Transmission} (h : s.offer slot = some tx) :
    s.offerCompletion = some tx ∨ s.offerRequest = some tx ∨ s.offerBeacon = some tx := by
  unfold State.offer at h
  dsimp only at h
  split at h
  · split_ifs at h
    · exact .inl h
    · simp only [Option.orElse_eq_orElse, Option.orElse_eq_or, Option.or_eq_some_iff] at h
      exact .inr (h.imp_right And.right)
  · split_ifs at h
    simp only [Option.orElse_eq_orElse, Option.orElse_eq_or, Option.or_eq_some_iff] at h
    exact h.imp_right fun hrest => hrest.2.imp_right And.right

/-- R88: the request offered is that of a READY entry, the first of the unsent list. -/
theorem State.offerRequest_of_offer {s : State} {slot : Fin 48} {f : Frame} {g : Tag}
    (h : s.offer slot = some ⟨f, .request g⟩) : s.issue.unsent.head? = some g ∧ (s.entry g).state = .ready := by
  obtain h | h | h := State.offer_cases h
  · simp [State.offerCompletion] at h
  · unfold State.offerRequest at h
    split at h
    · cases h
    · split at h
      · cases h
        exact ⟨‹_›, ‹_›⟩
      · cases h
  · simp [State.offerBeacon] at h

/-- R87: on the trunk the unsent list holds the tags of the entries FETCHING, READY and HOLD. -/
theorem OrtLaw.onUnsent_of_unsentState {s : State} (ort : OrtLaw s) (hon : s.onTrunk = true) {u : Tag}
    (h : (s.entry u).unsentState = true) : (s.entry u).onUnsent = true := by
  have hmark : (s.entry u).endingMark = false := by
    refine Bool.eq_false_iff.mpr fun hm => ?_
    obtain ⟨hoff, -, -⟩ := ort.marked u hm
    simp [hon] at hoff
  unfold OrtEntry.unsentState at h
  unfold OrtEntry.onUnsent
  split <;> simp_all

/-- R87, R89: nothing issued before the first of the unsent list is FETCHING, READY or HOLD. -/
theorem OrtLaw.before_head {s : State} (ort : OrtLaw s) (hon : s.onTrunk = true) {u g : Tag}
    (hhead : s.issue.unsent.head? = some g) (hu : s.issuedBefore u g) : (s.entry u).unsentState = false := by
  rw [ort.unsent, List.head?_filter, List.find?_eq_some_iff_append] at hhead
  obtain ⟨hg, front, back, horder, hfront⟩ := hhead
  obtain ⟨a, b, c, horder'⟩ := hu
  have hnodup := ort.orderNodup
  rw [horder] at hnodup
  have hsplit : front = a ++ u :: b := by
    have hgf : g ∉ front := fun h => by simpa [hg] using hfront g h
    have hgb : g ∉ back := (List.nodup_cons.mp (List.nodup_append.mp hnodup).2.1).1
    exact ((List.append_cons_inj_of_notMem hgf hgb).mp (horder.symm.trans horder')).1
  have hout : (s.entry u).onUnsent = false := by simpa using hfront u (by simp [hsplit])
  exact Bool.eq_false_iff.mpr fun h => by simp [ort.onUnsent_of_unsentState hon h] at hout

/-- R39, R88, R89: the frame started is that of the first entry of the unsent list. -/
theorem SendOrder.startFrame {s : State} (ort : OrtLaw s) (hon : s.onTrunk = true) {slot : Fin 48} {tx : Transmission}
    (h : s.offer slot = some tx) : SendOrder (s.startFrame tx) := by
  have hoffer : ∀ f g, (s.startFrame tx).tif.tx = some ⟨f, .request g⟩ →
      s.issue.unsent.head? = some g ∧ (s.entry g).state = .ready := fun f g htx =>
    State.offerRequest_of_offer (h.trans htx)
  exact ⟨fun f g htx _ => (hoffer f g htx).2, fun f g htx u hu => ort.before_head hon (hoffer f g htx).1 hu⟩

/-! ### Host commands -/

/-- A command refused leaves the order alone, so a command does when it does where it is permitted. -/
theorem OrderKept.ifPermitted {s : State} {c : HostCode} {refused : List Byte} {f : State → State}
    (h : c.permitted s.ctl.station = true → OrderKept s (f s)) : OrderKept s (s.ifPermitted c refused f) := by
  unfold State.ifPermitted
  split
  · next hp => exact h hp
  · exact .of_ort_eq rfl rfl id

/-- R114: no entry becomes FETCHING, READY or HOLD by an ABORT. -/
theorem OrtEntry.unsentState_of_abort {e : OrtEntry} {granted : Bool} (h : (e.abort granted).unsentState = true) :
    e.unsentState = true := by
  unfold OrtEntry.abort at h
  cases hs : e.state <;> cases granted <;> simp_all [OrtEntry.finish, OrtEntry.unsentState, OrtEntry.blank]

/-- R181: ABORT leaves the station off the trunk, with no entry FETCHING, READY or HOLD that was not so before. -/
theorem OrderKept.abortStation (s : State) : OrderKept s s.abortStation :=
  .offTrunk rfl rfl (fun u hu => OrtEntry.unsentState_of_abort ((s.abortRequests_entry u) ▸ hu)) List.filter_sublist

/-- Every command of the host but JOIN, LEAVE and ABORT leaves the trunk side and the ORT alone. -/
theorem State.takeByCode_frame (s : State) (c : HostCode) (bs : List Byte)
    (h : c ∉ [HostCode.join, .leave, .abort]) :
    (s.takeByCode c bs).tif = s.tif ∧ (s.takeByCode c bs).ctl.station = s.ctl.station
      ∧ (s.takeByCode c bs).ort = s.ort := by
  cases c
  case join | leave | abort => simp at h
  all_goals
    simp only [State.takeByCode, State.takeStatus, State.takeSubmit, State.takeTakeCompletion, State.takeTakeNotify,
      State.takeReadEvents, State.takeAckEvents, State.takeSetMask, State.takeSetThreshold, State.takeSetLineMode,
      State.takeReadPresence, State.takeReadCounters, State.takeClearCounters, State.takeReadFault,
      State.takeConfigRead, State.takeConfigWrite, State.takeRestart, State.ifPermitted]
    repeat' split
    all_goals exact ⟨rfl, rfl, rfl⟩

/-- R177: JOIN leaves the station off the trunk. -/
theorem OrderKept.takeJoin (s : State) : OrderKept s s.takeJoin := by
  refine OrderKept.ifPermitted fun _ => ?_
  split
  · exact .of_ort_eq rfl rfl id
  · split
    · exact .of_ort_eq rfl rfl id
    · exact .of_ort_eq rfl rfl nofun

/-- R158, R179: LEAVE is permitted on the trunk alone. -/
theorem OrderKept.takeLeave (s : State) : OrderKept s s.takeLeave := by
  refine OrderKept.ifPermitted fun hp => .of_ort_eq rfl rfl fun _ => s.onTrunk_iff.mpr (.inl ?_)
  revert hp
  cases s.ctl.station <;> decide

/-- R181: ABORT taken, on the trunk or off it. -/
theorem OrderKept.takeAbort (s : State) : OrderKept s s.takeAbort :=
  OrderKept.ifPermitted fun _ => (OrderKept.abortStation s).trans (.of_ort_eq rfl rfl id)

/-- R155: no command of the host breaks the send order. -/
theorem OrderKept.takeByCode (s : State) (c : HostCode) (bs : List Byte) : OrderKept s (s.takeByCode c bs) := by
  by_cases hc : c ∈ [HostCode.join, .leave, .abort]
  · simp only [List.mem_cons, List.not_mem_nil, or_false] at hc
    obtain rfl | rfl | rfl := hc
    · exact .takeJoin s
    · exact .takeLeave s
    · exact .takeAbort s
  · obtain ⟨htif, hstation, hort⟩ := s.takeByCode_frame c bs hc
    exact .of_ort_eq (congrArg Tif.tx htif) hort fun hon => by rwa [State.onTrunk, ← hstation]

/-- R155: nor does a row of a host command. -/
theorem OrderKept.exec_hostRow {i : Instr} {x : HostCode × List Byte × List Byte} {s t : State}
    (hrow : hostRow i = some x) (h : exec i s = .next t) : OrderKept s t := by
  rw [Sys2Proof.Machine.exec_hostRow hrow] at h
  injection h with h
  subst h
  split
  · exact .takeByCode s _ _
  · exact .refl s

/-- R154: a byte completed takes a command, or moves the decoder alone. -/
theorem OrderKept.byteCompleted (s : State) (b : Byte) : OrderKept s (s.byteCompleted b) := by
  unfold State.byteCompleted
  split
  case h_1 | h_5 => exact .refl s
  case h_4 => exact .of_ort_eq rfl rfl id
  case h_2 =>
    split
    · exact .of_ort_eq rfl rfl id
    · split
      · exact .takeByCode s _ _
      · exact .of_ort_eq rfl rfl id
  case h_3 =>
    split
    · exact .takeByCode s _ _
    · exact .of_ort_eq rfl rfl id

/-- A tick counts down the timer of an entry, and changes nothing else of it. -/
theorem State.tick_entry (s : State) (g : Tag) :
    s.tick.entry g = if s.held then s.entry g else { s.entry g with state := (s.entry g).state.tick } := by
  unfold State.tick
  split <;> simp [State.entry]

/-! ### The memory port and the Target Engine -/

namespace OrderKept

/-- A step that keeps the order, behind one that leaves the wire, the ORT and the station state alone. -/
theorem before {s u t : State} (h : OrderKept u t) (wire : u.tif.tx = s.tif.tx) (ort : u.ort = s.ort)
    (trunk : u.onTrunk = true → s.onTrunk = true) : OrderKept s t :=
  (of_ort_eq wire ort trunk).trans h

/-- R65: a response changes the response queue alone. -/
theorem respond (s : State) (e : ServiceEntry) (status : CplStatus) (swapped : Bool) (data : List Byte) :
    OrderKept s (s.respond e status swapped data) := by
  obtain ⟨t, k, -, -, h⟩ | ⟨-, h⟩ := s.respond_cases e status swapped data
  · rw [h]
    exact .of_ort_eq rfl rfl id
  · rw [h]
    exact .refl s

theorem popService {s t : State} (h : OrderKept s t) : OrderKept s t.popService :=
  h.trans (.of_ort_eq rfl rfl id)

theorem finishService (s : State) (op : MemOp) (fault : Bool) : OrderKept s (s.finishService op fault) := by
  unfold State.finishService
  split
  · exact .refl s
  · split <;> refine popService ?_
    · split
      · exact (refl s).onEvents _
      · exact .refl s
    · exact .respond s _ _ _ _
    · split <;> exact .respond s _ _ _ _
    · split <;> exact .respond s _ _ _ _

/-- R85: the entry FETCHING whose fetch ends becomes READY or DONE. -/
theorem finishFetch (s : State) (g : Tag) (op : MemOp) (fault : Bool) : OrderKept s (s.finishFetch g op fault) := by
  unfold State.finishFetch
  dsimp only
  split
  · next hf =>
    have hr : (s.entry g).state ≠ .ready := by simp [hf]
    split
    · exact enterDone hr _ _
    · split
      · exact (enterDone hr _ _).onEvents _
      · exact setEntry (fun _ => rfl) fun _ => by simp [OrtEntry.unsentState, hf]
  · exact .refl s

/-- R108: the entry STORING whose store ends becomes DONE. -/
theorem finishStore (s : State) (g : Tag) (fault : Bool) : OrderKept s (s.finishStore g fault) := by
  unfold State.finishStore
  dsimp only
  split
  · next hf =>
    have hr : (s.entry g).state ≠ .ready := by simp [hf]
    split
    · exact enterDone hr _ _
    · split
      · exact (enterDone hr _ _).onEvents _
      · exact enterDone hr _ _
  · exact .refl s

theorem endOperation (s : State) (op : MemOp) (fault : Bool) : OrderKept s (s.endOperation op fault) := by
  unfold State.endOperation
  dsimp only
  split
  · split
    · exact .of_ort_eq rfl rfl id
    · exact before (finishService _ op fault) rfl rfl id
  · exact before (finishFetch _ _ op fault) rfl rfl id
  · exact before (finishStore _ _ fault) rfl rfl id

theorem completeAccess (s : State) (op : MemOp) (other : Option (BitVec 16)) :
    OrderKept s (s.completeAccess op other) := by
  unfold State.completeAccess
  dsimp only
  split
  · exact before (endOperation _ _ false) rfl rfl id
  · exact .of_ort_eq rfl rfl id

theorem execWordAccessComplete {s t : State} {other : Option (BitVec 16)}
    (h : Machine.execWordAccessComplete other s = .next t) : OrderKept s t := by
  unfold Machine.execWordAccessComplete at h
  split at h
  · cases h
    exact .refl s
  · split at h
    · cases h
      exact .completeAccess s _ other
    · cases h

theorem execWaitTimerExpiry {s t : State} (h : Machine.execWaitTimerExpiry s = .next t) : OrderKept s t := by
  obtain rfl | ⟨op, -, -, rfl⟩ := execWaitTimerExpiry_cases s t h
  · exact .refl _
  · exact .endOperation s op true

theorem execMemoryGrant {s t : State} (h : Machine.execMemoryGrant s = .next t) : OrderKept s t := by
  obtain rfl | ⟨op, -, -, -, rfl⟩ := execMemoryGrant_cases s t h
  · exact .refl _
  · exact .of_ort_eq rfl rfl id

/-- R64: a notify entry served changes the Target Engine and the mailbox. -/
theorem execNotifyService {s t : State} (h : Machine.execNotifyService s = .next t) : OrderKept s t := by
  cases h
  split
  · exact .refl s
  · split
    · exact popService (before (respond _ _ _ _ _) rfl rfl id)
    · exact .refl s

/-- R67: an expired reservation changes the Target Engine. -/
theorem execLifetimeExpiry {place : ReservationPlace} {s t : State}
    (h : Machine.execLifetimeExpiry place s = .next t) : OrderKept s t := by
  cases h
  split
  · unfold State.expireService
    repeat' split
    all_goals exact .of_ort_eq rfl rfl id
  · unfold State.expireResponse
    repeat' split
    all_goals exact .of_ort_eq rfl rfl id

/-! ### The timers of an entry, its record, and the notice that a station is lost -/

/-- R97: the entry in HOLD becomes READY. -/
theorem execHoldoffExpiry {g : Tag} {s t : State} (h : Machine.execHoldoffExpiry g s = .next t) : OrderKept s t := by
  cases h
  split
  · next hs => exact setEntry (fun _ => rfl) fun _ => by simp [OrtEntry.unsentState, hs]
  · exact .refl s

theorem execCompletionTimeout {g : Tag} {s t : State} (h : Machine.execCompletionTimeout g s = .next t) :
    OrderKept s t := by
  cases h
  split
  · next hs => exact enterDone (by simp [hs]) _ _
  · exact .refl s

theorem execQuarantineExpiry {g : Tag} {s t : State} (h : Machine.execQuarantineExpiry g s = .next t) :
    OrderKept s t := by
  cases h
  split
  · next hs => exact freeEntry (by simp [hs])
  · exact .refl s

/-- R111, R120: the entry whose record is placed is DONE, and becomes STALE or FREE. -/
theorem execPlaceRecord {s t : State} (ort : OrtLaw s) (h : Machine.execPlaceRecord s = .next t) : OrderKept s t := by
  cases h
  split
  · exact .refl s
  · next g rest hretire =>
    have hdone : (s.entry g).state = .done := (ort.retired g).mp (by simp [hretire])
    have hretired : ∀ st, OrderKept s (s.retired g st) := fun st => by
      unfold State.retired
      split
      · exact setEntry (by simp [hdone]) nofun
      · exact freeEntry (by simp [hdone])
    split
    · exact .refl s
    · split
      · exact (hretired _).trans (.of_ort_eq rfl rfl id)
      · exact .refl s

/-- R106: the entries that await the lost station become DONE. -/
theorem ortStationLost (s : State) (st : StationNo) : OrderKept s (s.ortStationLost st) where
  wire := congrArg Tif.tx (s.ortStationLost_tif st)
  trunk hon := by rwa [State.onTrunk, State.ortStationLost_ctl] at hon
  ready _ g hg := by
    have hno : (s.entry g).awaits st = false := by simp [OrtEntry.awaits, hg]
    rw [State.ortStationLost_entry, hno]
    exact hg
  unsent u hu := by
    rw [State.ortStationLost_entry] at hu
    split at hu
    · cases hu
    · exact hu
  order := by simp only [State.ortStationLost, List.Sublist.refl]

/-- R69: the notice at the Target Engine. -/
theorem targetStationLost {s t : State} (h : OrderKept s t) (st : StationNo) : OrderKept s (t.targetStationLost st) :=
  h.trans (.of_ort_eq rfl rfl id)

theorem execPresenceTimeout {st : StationNo} {s t : State} (h : Machine.execPresenceTimeout st s = .next t) :
    OrderKept s t := by
  cases h
  split
  · split
    · refine targetStationLost ?_ st
      exact before (ortStationLost (s.presenceLost st) st) rfl rfl id
    · exact .refl s
  all_goals exact .refl s

/-! ### Time -/

/-- A tick leaves an entry READY, and one not FETCHING, READY or HOLD so. -/
theorem tick (s : State) : OrderKept s s.tick := by
  have hfields : s.tick.tif = s.tif ∧ s.tick.onTrunk = s.onTrunk ∧ s.tick.ort.issueOrder = s.ort.issueOrder := by
    unfold State.tick
    split <;> exact ⟨rfl, rfl, rfl⟩
  obtain ⟨htif, htrunk, horder⟩ := hfields
  refine ⟨congrArg Tif.tx htif, fun hon => htrunk ▸ hon, fun _ g hg => ?_, fun u hu => ?_, horder ▸ .refl _⟩
  · rw [State.tick_entry]
    split
    · exact hg
    · rw [hg]
      rfl
  · rw [State.tick_entry] at hu
    split at hu
    · exact hu
    · unfold OrtEntry.unsentState at hu ⊢
      cases hs : (s.entry u).state <;> simp_all [EntryState.tick]

theorem idle (s : State) : OrderKept s s.idle := by
  obtain ⟨h, -⟩ | ⟨op, -, -, h⟩ := s.idle_cases
  · rw [h]
    exact .tick s
  · rw [h]
    exact .of_ort_eq rfl rfl id

/-! ### Loading -/

/-- R175: the end of loading leaves the station in JOINING or CONFIG. -/
theorem endOfLoading (s : State) (eeprom : Option (List Byte)) (straps : StationNo) :
    OrderKept s (s.endOfLoading eeprom straps) := by
  unfold State.endOfLoading
  dsimp only
  split
  · exact .of_ort_eq rfl rfl nofun
  · split
    · split
      · exact .of_ort_eq rfl rfl nofun
      · exact .of_ort_eq rfl rfl nofun
    · exact .of_ort_eq rfl rfl nofun

end OrderKept

end Sys2Proof.Machine
end

section
/-! PROOFS. Chapter 5 (the send order): everything a command can do to it, and the law kept by every step (O60). -/

namespace Sys2Proof.Machine

/-! ### The laws do not read the queue of commands -/

/-- The state with these commands waiting. -/
def State.withPending (s : State) (p : List Instr) : State := { s with pending := p }

theorem OrtLaw.withPending {s : State} (h : OrtLaw s) (p : List Instr) : OrtLaw (s.withPending p) := { h with }

theorem StationLaw.withPending {s : State} (h : StationLaw s) (p : List Instr) : StationLaw (s.withPending p) :=
  { h with held := fun hheld => congrArg (fun x : State => x.withPending p) (h.held hheld) }

theorem SendOrder.withPending {s : State} (h : SendOrder s) (p : List Instr) : SendOrder (s.withPending p) := { h with }

/-! ### The wire, by the frames and slots of the trunk -/

@[simp] theorem Tif.frameEnded_tx (t : Tif) (slot : Option Exchange) : (t.frameEnded slot).tx = t.tx :=
  (t.frameEnded_fields slot).1

@[simp] theorem State.afterFrame_tx (s : State) (f : Frame) (sender : Option Origin) (mark : Mark) :
    (s.afterFrame f sender mark).tif.tx = s.tif.tx :=
  s.tif.frameEnded_tx _

/-- R182: an own frame on the wire at entry to DETACHED runs on. -/
@[simp] theorem State.detach_tx (s : State) (kind : FaultKind) : (s.detach kind).tif.tx = s.tif.tx := rfl

@[simp] theorem State.failJoin_tx (s : State) : s.failJoin.tif.tx = s.tif.tx := rfl

@[simp] theorem State.duplicate_tx (s : State) (f : Frame) : (s.duplicate f).tif.tx = s.tif.tx := by
  unfold State.duplicate
  split <;> simp

@[simp] theorem State.handByKind_tx (s : State) (f : Frame) (sender : Option Origin) :
    (s.handByKind f sender).tif.tx = s.tif.tx := by
  unfold State.handByKind
  repeat' split
  all_goals simp

/-- R25: the end of a frame puts no own frame on the wire. -/
@[simp] theorem State.receive_tx (s : State) (f : Frame) (sender : Option Origin) :
    (s.receive f sender).tif.tx = s.tif.tx := by
  unfold State.receive
  dsimp only
  repeat' split
  all_goals simp

@[simp] theorem State.receiveCorrupt_tx (s : State) (slotFollows : Bool) :
    (s.receiveCorrupt slotFollows).tif.tx = s.tif.tx := by
  simp only [State.receiveCorrupt, Tif.frameEnded_tx]
  split <;> rfl

/-! ### Everything a step can do to the send order -/

/-- What a step can do to the send order: it leaves no own frame on the wire; or it keeps the order; or it issues an
entry; or the station starts the frame it offers. -/
inductive SendStep (s t : State) : Prop
  | silent (h : t.tif.tx = none)
  | kept (h : OrderKept s t)
  | issued (g : Tag) (d : Descriptor) (rest : List Descriptor) (hon : s.onTrunk = true)
      (hfree : (s.entry g).state = .free) (h : t = s.issueInto g d rest)
  | started (slot : Fin 48) (tx : Transmission) (hon : s.onTrunk = true) (hoffer : s.offer slot = some tx)
      (h : t = s.startFrame tx)

/-- Every one of them keeps the send-order law. -/
theorem SendStep.sendOrder {s t : State} (ort : OrtLaw s) (order : SendOrder s) : SendStep s t → SendOrder t
  | .silent h => .of_silent h
  | .kept h => order.of_kept h
  | .issued _ d rest hon hfree h => h ▸ order.issueInto ort hon hfree d rest
  | .started _ _ hon hoffer h => h ▸ SendOrder.startFrame ort hon hoffer

namespace SendStep

theorem unchanged (s : State) : SendStep s s := .kept (.refl s)

/-- R23: a reception that puts no own frame on the wire, heard with none there. -/
theorem of_hears {s t : State} (hears : s.hearsFrame = true) (wire : t.tif.tx = s.tif.tx) : SendStep s t :=
  have ⟨_, htx, _⟩ := s.hearsFrame_iff.mp hears
  .silent (wire.trans htx)

theorem execRequestFrameReceived {f : ReqFrame} {s t : State} (h : Machine.execRequestFrameReceived f s = .next t) :
    SendStep s t := by
  cases h
  split
  · next hr =>
    have hears := (Bool.and_eq_true_iff.mp hr).1
    split
    · exact .of_hears hears (s.receive_tx _ none)
    · exact .of_hears hears (s.receiveCorrupt_tx true)
  · exact .unchanged s

theorem execCompletionFrameReceived {f : CplFrame} {s t : State}
    (h : Machine.execCompletionFrameReceived f s = .next t) : SendStep s t := by
  cases h
  split
  · next hr =>
    have hears := (Bool.and_eq_true_iff.mp hr).1
    split
    · exact .of_hears hears (s.receive_tx _ none)
    · exact .of_hears hears (s.receiveCorrupt_tx true)
  · exact .unchanged s

theorem execBeaconReceived {src : StationNo} {s t : State} (h : Machine.execBeaconReceived src s = .next t) :
    SendStep s t := by
  cases h
  split
  · next hears => exact .of_hears hears (s.receive_tx _ none)
  · exact .unchanged s

theorem execCorruptReception {slotFollows : Bool} {s t : State}
    (h : Machine.execCorruptReception slotFollows s = .next t) : SendStep s t := by
  cases h
  split
  · next hears => exact .of_hears hears (s.receiveCorrupt_tx slotFollows)
  · exact .unchanged s

/-- R22: an own frame that has been sent is off the wire. -/
theorem execOwnFrameSent {s t : State} (h : Machine.execOwnFrameSent s = .next t) : SendStep s t := by
  cases h
  split
  · exact .unchanged s
  · refine .silent ?_
    dsimp only
    repeat' split
    all_goals simp [Tif.busyWith]

/-- R24: an own frame abandoned is off the wire. -/
theorem execCollision {s t : State} (h : Machine.execCollision s = .next t) : SendStep s t := by
  cases h
  split
  · exact .unchanged s
  · refine .silent ?_
    dsimp only
    split
    · unfold State.accessCollision
      dsimp only
      split <;> rfl
    · rfl

/-- R24: while an own frame is on the wire no slot is still to end. -/
theorem execSlotEnd {cells : SlotCells} {s t : State} (law : StationLaw s) (h : Machine.execSlotEnd cells s = .next t) :
    SendStep s t := by
  cases h
  split
  · exact .unchanged s
  · next e he =>
    split
    · have htx : s.tif.tx = none := by
        by_contra hne
        rw [law.wire hne] at he
        cases he
      exact .silent (by simp [Tif.slotEnded, htx])
    · exact .unchanged s

theorem execSlotBegin {s t : State} (h : Machine.execSlotBegin s = .next t) : SendStep s t := by
  cases h
  split
  · exact .unchanged s
  · split
    · exact .unchanged s
    · exact .kept (.of_ort_eq rfl rfl id)

theorem execRoundOpen {s t : State} (h : Machine.execRoundOpen s = .next t) : SendStep s t := by
  obtain rfl | ⟨-, -, rfl⟩ := execRoundOpen_cases s t h
  · exact .unchanged _
  · exact .kept (.of_ort_eq rfl rfl id)

/-- R39: a slot that begins is counted, or the station starts its frame in it. -/
theorem execContentionSlot {slot : Fin 48} {s t : State} (h : Machine.execContentionSlot slot s = .next t) :
    SendStep s t := by
  obtain rfl | ⟨-, -, rfl⟩ := execContentionSlot_cases slot s t h
  · exact .unchanged _
  · unfold State.beginSlot
    split
    · next tx htx =>
      split at htx
      · next hon => exact .started slot tx hon htx rfl
      · cases htx
    · exact .kept (.of_ort_eq rfl rfl id)

theorem execIssue {s t : State} (h : Machine.execIssue s = .next t) : SendStep s t := by
  obtain rfl | ⟨d, rest, g, -, hfree, hmay, ht⟩ := execIssue_cases h
  · exact .unchanged _
  · obtain ⟨honline, -⟩ := (s.mayIssue_iff d).mp hmay
    exact .issued g d rest (s.onTrunk_iff.mpr (.inl honline)) ((s.lowestFree_iff g).mp hfree).1 ht

/-- R157: the end of a host frame removes a record, or restarts the station. -/
theorem execHostFrameEnd {s t : State} (h : Machine.execHostFrameEnd s = .next t) : SendStep s t := by
  cases h
  split
  · split
    case h_2 =>
      unfold State.takenFrameEnds
      split
      case h_3 => exact .silent rfl
      case h_1 | h_2 => split <;> exact .kept (.of_ort_eq rfl rfl id)
      case h_4 => exact .kept (.of_ort_eq rfl rfl id)
    all_goals exact .kept (.of_ort_eq rfl rfl id)
  · exact .unchanged s

/-- R28: the station comes on the trunk with no own frame on the wire. -/
theorem execJoinHoldoffExpiry {s t : State} (law : StationLaw s) (h : Machine.execJoinHoldoffExpiry s = .next t) :
    SendStep s t := by
  cases h
  split
  · next hj =>
    obtain ⟨htx, -⟩ := s.tifQuiet_iff.mp (law.quiet (.inr hj.1))
    exact .silent htx
  · exact .unchanged s

theorem execEndOfDraining {s t : State} (h : Machine.execEndOfDraining s = .next t) : SendStep s t := by
  cases h
  split
  · next hd =>
    obtain ⟨-, -, -, -, -, hquiet⟩ := s.drained_iff.mp hd.2
    exact .silent (s.tifQuiet_iff.mp hquiet).1
  · exact .unchanged s

end SendStep

/-- R89: everything a command can do to the send order. -/
theorem exec_sendStep {i : Instr} {s t : State} (ort : OrtLaw s) (law : StationLaw s) (h : exec i s = .next t) :
    SendStep s t := by
  cases i
  case pinReset => cases h; exact .silent rfl
  case resetRelease => cases h; split; exacts [.kept (.of_ort_eq rfl rfl id), .unchanged s]
  case endOfLoading eeprom straps =>
    cases h
    refine .kept (OrderKept.unlessHeld ?_)
    split
    · exact .endOfLoading s eeprom straps
    · exact .refl s
  case hostFrameStart => cases h; split; exacts [.unchanged s, .kept (.of_ort_eq rfl rfl id)]
  case hostFrameEnd => exact .execHostFrameEnd h
  case contentionSlot slot => exact .execContentionSlot h
  case roundOpen => exact .execRoundOpen h
  case slotBegin => exact .execSlotBegin h
  case slotEnd cells => exact .execSlotEnd law h
  case ownFrameSent => exact .execOwnFrameSent h
  case collision => exact .execCollision h
  case requestFrameReceived f => exact .execRequestFrameReceived h
  case completionFrameReceived f => exact .execCompletionFrameReceived h
  case beaconReceived src => exact .execBeaconReceived h
  case corruptReception slotFollows => exact .execCorruptReception h
  case presenceTimeout st => exact .kept (.execPresenceTimeout h)
  case beaconTimerExpiry =>
    cases h
    repeat' split
    all_goals exact .kept (.of_ort_eq rfl rfl id)
  case joinHoldoffExpiry => exact .execJoinHoldoffExpiry law h
  case holdoffExpiry g => exact .kept (.execHoldoffExpiry h)
  case completionTimeout g => exact .kept (.execCompletionTimeout h)
  case quarantineExpiry g => exact .kept (.execQuarantineExpiry h)
  case lifetimeExpiry place => exact .kept (.execLifetimeExpiry h)
  case issue => exact .execIssue h
  case placeRecord => exact .kept (.execPlaceRecord ort h)
  case memoryGrant => exact .kept (.execMemoryGrant h)
  case wordAccessComplete other => exact .kept (.execWordAccessComplete h)
  case waitTimerExpiry => exact .kept (.execWaitTimerExpiry h)
  case notifyService => exact .kept (.execNotifyService h)
  case endOfDraining => exact .execEndOfDraining h
  case hintPulseEnd => cases h; exact .kept (.of_ort_eq rfl rfl id)
  case startDelimiterSeen => cases h; split; exacts [.kept (.of_ort_eq rfl rfl id), .unchanged s]
  case hostByteComplete b =>
    cases h
    exact .kept (OrderKept.unlessHeld (.byteCompleted s b))
  all_goals exact .kept (.exec_hostRow rfl h)

/-- Settles O60: an idle step and every command do one of the four things that keep the law. -/
theorem sendOrderLaw : Obligations.SendOrderLaw := by
  intro s t ort law order hstep
  unfold step at hstep
  split at hstep
  · cases hstep
    exact order.of_kept (.idle s)
  · next i rest _ =>
    exact (exec_sendStep (ort.withPending rest) (law.withPending rest) hstep).sendOrder (ort.withPending rest)
      (order.withPending rest)

end Sys2Proof.Machine
end

section
/-! PROOFS. Chapter 6 (the Outstanding Request Table): what the entry whose request frame was sent does with the
outcome of its slot (O42), and the placement of an entry's completion record (O46). -/

namespace Sys2Proof.Machine

/-! ### The outcome of a request's slot (R94 to R99) -/

/-- R94: an entry no longer READY ignores the outcome. -/
theorem State.requestOutcome_notReady {s : State} {g : Tag} (h : (s.entry g).state ≠ .ready) (out : SlotOutcome) :
    s.requestOutcome g out = s := if_neg h

section ReadyEntry

variable {s : State} {g : Tag}

/-- R95: a posted WRITE is over with its ACCEPT. -/
theorem State.requestOutcome_accept_write (h : (s.entry g).state = .ready) (hop : (s.entry g).op = .write)
    (n : StationNo) :
    s.requestOutcome g (.accept n) = s.enterDone g { s.entry g with target := some n } .ok := by
  simp [State.requestOutcome, h, hop]

/-- R95: every other request awaits its completion from the station that accepted it. -/
theorem State.requestOutcome_accept_nonPosted (h : (s.entry g).state = .ready) (hop : (s.entry g).op ≠ .write)
    (n : StationNo) :
    s.requestOutcome g (.accept n) =
      { s.setEntry g { s.entry g with target := some n, state := .awaiting s.ctl.ct.toNat } with
        issue := { s.issue with unsent := s.issue.unsent.filter (fun u => decide (u ≠ g)) } } := by
  cases hcase : (s.entry g).op with
  | write => exact absurd hcase hop
  | writeAcked | read | swap => simp [State.requestOutcome, h, hcase]

/-- R96: a BUSY with a retry left puts the entry into HOLD, for four ticks more with each retry. -/
theorem State.requestOutcome_busy_retry (h : (s.entry g).state = .ready) (hr : (s.entry g).busyRetries < 8)
    (n : StationNo) :
    s.requestOutcome g (.busy n) =
      s.setEntry g
        { s.entry g with
          busyRetries := (s.entry g).busyRetries + 1, state := .hold (4 * ((s.entry g).busyRetries + 1)) } := by
  simp [State.requestOutcome, h, busyRetryLimit, hr]

/-- R96: the ninth BUSY ends the request. -/
theorem State.requestOutcome_busy_exhausted (h : (s.entry g).state = .ready)
    (hr : 8 ≤ (s.entry g).busyRetries) (n : StationNo) :
    s.requestOutcome g (.busy n) = s.enterDone g { s.entry g with target := some n } .busyExhausted := by
  simp [State.requestOutcome, h, busyRetryLimit, Nat.not_lt.mpr hr]

/-- R98: a REFUSE ends the request. -/
theorem State.requestOutcome_refuse (h : (s.entry g).state = .ready) (n : StationNo) :
    s.requestOutcome g (.refuse n) = s.enterDone g { s.entry g with target := some n } .denied := by
  simp [State.requestOutcome, h]

/-- R99: a CORRUPT with a resend left keeps the entry READY. -/
theorem State.requestOutcome_corrupt_resend (h : (s.entry g).state = .ready)
    (hr : (s.entry g).corruptResends < 3) :
    s.requestOutcome g .corrupt =
      s.setEntry g { s.entry g with corruptResends := (s.entry g).corruptResends + 1 } := by
  simp [State.requestOutcome, h, corruptResendLimit, hr]

/-- R99: the fourth CORRUPT ends the request. -/
theorem State.requestOutcome_corrupt_exhausted (h : (s.entry g).state = .ready)
    (hr : 3 ≤ (s.entry g).corruptResends) :
    s.requestOutcome g .corrupt = s.enterDone g (s.entry g) .corruptExhausted := by
  simp [State.requestOutcome, h, corruptResendLimit, Nat.not_lt.mpr hr]

/-- R98: a CONFLICT ends the request, with no target. -/
theorem State.requestOutcome_conflict (h : (s.entry g).state = .ready) :
    s.requestOutcome g .conflict = s.enterDone g (s.entry g) .conflict := if_pos h

/-- R98: a SILENT slot ends the request, with no target. -/
theorem State.requestOutcome_silent (h : (s.entry g).state = .ready) :
    s.requestOutcome g .silent = s.enterDone g (s.entry g) .unclaimed := if_pos h

end ReadyEntry

/-- R32: after an own request with no claim in its slot, the outcome goes to the entry of the request. -/
theorem exec_slotEnd_request {s : State} {e : Exchange} {g : Tag} (he : s.tif.exchange = some e)
    (hb : e.begun = true) (hc : s.tif.corruptNext = false) (hm : ∀ c, e.mark ≠ .claim c)
    (hs : e.sender = some (.request g)) (cells : SlotCells) :
    exec (.slotEnd cells) s = .next ((s.requestOutcome g cells.resolve).withExchange none) := by
  rw [exec_slotEnd he hb hc, State.readBack_noClaim hm, hs]
  rfl

/-- Settles O42: outcome by outcome, by what the READY entry does with it; the exchange ends apart from that. -/
theorem slotEndGivesTheRequestItsOutcome : Obligations.SlotEndGivesTheRequestItsOutcome := by
  intro cells e g s he hb hc hm hs
  have hend := exec_slotEnd_request he hb hc hm hs cells
  refine ⟨fun hnot => ?notReady, fun hready => ⟨fun n hr => ⟨fun hop => ?written, fun hop => ?awaiting⟩,
    fun n hr => ⟨fun hlt => ?hold, fun hle => ?busyExhausted⟩, fun n hr => ?denied,
    fun hr => ⟨fun hlt => ?resend, fun hle => ?corruptExhausted⟩, fun hr => ?conflict, fun hr => ?unclaimed⟩⟩
  case notReady => rw [hend, State.requestOutcome_notReady hnot]; rfl
  case written => rw [hend, hr, State.requestOutcome_accept_write hready hop]; rfl
  case awaiting => rw [hend, hr, State.requestOutcome_accept_nonPosted hready hop]; rfl
  case hold => rw [hend, hr, State.requestOutcome_busy_retry hready hlt]; rfl
  case busyExhausted => rw [hend, hr, State.requestOutcome_busy_exhausted hready hle]; rfl
  case denied => rw [hend, hr, State.requestOutcome_refuse hready]; rfl
  case resend => rw [hend, hr, State.requestOutcome_corrupt_resend hready hlt]; rfl
  case corruptExhausted => rw [hend, hr, State.requestOutcome_corrupt_exhausted hready hle]; rfl
  case conflict => rw [hend, hr, State.requestOutcome_conflict hready]; rfl
  case unclaimed => rw [hend, hr, State.requestOutcome_silent hready]; rfl

/-! ### The placement of a completion record (R109, R111, R120, R121, R144) -/

/-- R120, R121: everything PLACE_RECORD can do: nothing, or place the record of the first tag of the retire list
in a queue with room. -/
theorem execPlaceRecord_cases {s t : State} (h : execPlaceRecord s = .next t) :
    t = s ∨ ∃ g rest st, s.completion.retire = g :: rest ∧ (s.entry g).result = some st
      ∧ s.completion.queue.length < 32 ∧ t = s.placeRecord g rest st := by
  unfold execPlaceRecord at h
  injection h with h
  subst h
  split
  · exact .inl rfl
  · next g rest hretire =>
    split
    · exact .inl rfl
    · next st hresult =>
      split
      · next hroom => exact .inr ⟨g, rest, st, hretire, hresult, hroom, rfl⟩
      · exact .inl rfl

/-- R120: with no tag on the retire list, or no room in the queue, no record is placed. -/
theorem execPlaceRecord_waits {s : State} (h : s.completion.retire = [] ∨ 32 ≤ s.completion.queue.length) :
    execPlaceRecord s = .next s := by
  obtain heq | ⟨g, rest, st, hretire, -, hroom, -⟩ := execPlaceRecord_cases (s := s) rfl
  · exact congrArg Host.Outcome.next heq
  · rcases h with hnil | hfull
    · simp [hnil] at hretire
    · exact absurd hroom (Nat.not_lt.mpr hfull)

/-- R120: with room in the queue, the record of the first tag of the retire list is placed. -/
theorem execPlaceRecord_first {s : State} {g : Tag} {rest : List Tag} {st : Status}
    (hretire : s.completion.retire = g :: rest) (hresult : (s.entry g).result = some st)
    (hroom : s.completion.queue.length < 32) : execPlaceRecord s = .next (s.placeRecord g rest st) := by
  simp [execPlaceRecord, hretire, hresult, completionQueueSize, hroom]

/-- R111: after a TIMEOUT or TARGET_LOST on the trunk the entry is quarantined for CT ticks. -/
theorem State.retired_quarantined {s : State} {st : Status} (h : st = .timeout ∨ st = .targetLost)
    (ht : s.onTrunk = true) (g : Tag) :
    s.retired g st = s.setEntry g { s.entry g with state := .stale s.ctl.ct.toNat } := if_pos ⟨h, ht⟩

/-- R111: after any other result, and off the trunk, the entry becomes FREE. -/
theorem State.retired_freed {s : State} {st : Status}
    (h : ¬ ((st = .timeout ∨ st = .targetLost) ∧ s.onTrunk = true)) (g : Tag) :
    s.retired g st = s.freeEntry g := if_neg h

/-- Settles O46: when a record is placed, and what then becomes of its entry. -/
theorem placementBuildsTheRecord : Obligations.PlacementBuildsTheRecord := by
  refine fun s => ⟨execPlaceRecord_waits, fun g rest st hretire hresult hroom => ?_⟩
  have hexec : exec .placeRecord s = .next (s.placeRecord g rest st) :=
    execPlaceRecord_first hretire hresult hroom
  have htrunk : s.ctl.station ∈ [StationState.online, .draining] ↔ s.onTrunk = true := by
    simp [State.onTrunk_iff]
  refine ⟨fun ⟨hst, hstation⟩ => ?_, fun hnot => ?_⟩
  · rw [hexec, State.placeRecord, State.retired_quarantined hst (htrunk.mp hstation)]
    rfl
  · rw [htrunk] at hnot
    rw [hexec, State.placeRecord, State.retired_freed hnot]
    rfl

end Sys2Proof.Machine
end

section
/-! PROOFS. Chapter 9 (events, counters and the interrupt line) at the host port: the counters (O15), ACK_EVENTS (O18)
and the line mode with HINT# (O20). -/

namespace Sys2Proof.Machine

/-! ### A host command taken and permitted (R154, R158) -/

/-- R154: the row of a well-formed command at a station open for it is taken with the row's operand bytes. -/
theorem exec_of_openFor {i : Instr} {c : HostCode} {ops refused : List Byte} {s : State}
    (hrow : hostRow i = some (c, ops, refused)) (hwf : i.wf = true) (hopen : s.openFor c ops) :
    exec i s = .next (s.takeByCode c ops) := by
  have htakes : s.takes c ops = true := State.takes_of_openFor hopen (hostRow_operandsWhole hrow hwf)
  rw [exec_hostRow hrow, hwf, htakes]
  rfl

/-- R158: a command refused in LOADING alone is carried out in every other station state. -/
theorem State.ifPermitted_of_loaded {s : State} {c : HostCode} {r : List Byte} {f : State → State}
    (hc : c.refusedIn = [.loading]) (hs : s.ctl.station ≠ .loading) : s.ifPermitted c r f = f s := by
  refine State.ifPermitted_of_permitted ?_
  rw [HostCode.permitted_eq, hc]
  simpa using hs

/-! ### The counters (R152, R153) -/

/-- R186: the number in place `i` of a list of 16-bit numbers is read back from the list's bytes; 0 behind its end. -/
theorem num2At_flatMap_bytes2 (l : List (BitVec 16)) (i : Nat) : num2At (l.flatMap bytes2) (2 * i) = l.getD i 0 := by
  induction l generalizing i with
  | nil => simp [num2At, byteAt]
  | cons v l ih =>
    cases i with
    | zero => exact num2_of_bytes v
    | succ i => exact ih i

/-- R153: place by place, a counter named becomes 0 and any other stays. -/
theorem Counters.list_clear (k : Counters) (named : BitVec 16) :
    (k.clear named).list = k.list.mapIdx fun i v => if named.getLsbD i = true then 0 else v := rfl

/-- R153: the clearing, read at one place of the list of R152. -/
theorem Counters.list_clear_getD (k : Counters) (named : BitVec 16) (i : Nat) :
    (k.clear named).list.getD i 0 = if named.getLsbD i = true then 0 else k.list.getD i 0 := by
  rw [Counters.list_clear, List.getD_eq_getElem?_getD, List.getD_eq_getElem?_getD, List.getElem?_mapIdx]
  cases k.list[i]? with
  | none => simp
  | some v => rfl

/-- R153: what READ_COUNTERS does. -/
theorem exec_readCounters {s : State} (hopen : s.openFor .readCounters []) (hs : s.ctl.station ≠ .loading) :
    exec .readCounters s = .next (s.answer .readCounters .done (countersBytes s.events.counters)) := by
  rw [exec_of_openFor (i := .readCounters) rfl rfl hopen, State.takeByCode, State.takeReadCounters,
    State.ifPermitted_of_loaded rfl hs]

/-- R153: what CLEAR_COUNTERS does. -/
theorem exec_clearCounters {s : State} {named : BitVec 16} (hopen : s.openFor .clearCounters (bytes2 named))
    (hs : s.ctl.station ≠ .loading) :
    exec (.clearCounters named) s = .next
      ((s.onEvents fun e => { e with counters := e.counters.clear named }).answer .clearCounters .done []) := by
  have hnamed : num2At (bytes2 named) 0 = named := num2_of_bytes named
  rw [exec_of_openFor (i := .clearCounters named) rfl rfl hopen, State.takeByCode, hnamed,
    State.takeClearCounters, State.ifPermitted_of_loaded rfl hs]

/-- Settles O15: the response is the list of the counters in bytes, and the clearing goes place by place. -/
theorem countersReadAndClear : Obligations.CountersReadAndClear := by
  intro named s hs k list
  refine ⟨fun hopen => ?_, fun hopen => ?_⟩
  · exact ⟨countersBytes k, exec_readCounters hopen hs, rfl, fun i => num2At_flatMap_bytes2 k.list i⟩
  · exact ⟨k.clear named, exec_clearCounters hopen hs, fun i => k.list_clear_getD named i⟩

/-! ### ACK_EVENTS (R146) -/

/-- R146: a category that no record makes pending again is pending still when it was and is not named. -/
theorem pending_and_not_named (pending named : Bool) :
    (pending && !named) = if named = true then false else pending := by
  cases named <;> simp

/-- R149: in LEVEL mode an acknowledgement leaves the pulse as it is. -/
theorem EventUnit.ack_pulsing_level {e : EventUnit} (h : e.lineMode = .level) (named : Categories)
    (again records : Bool) : (e.ack named again records).pulsing = e.pulsing := by
  simp [EventUnit.ack, h]

/-- R149: in PULSE mode a named unmasked category that is pending again gains a pulse. -/
theorem EventUnit.ack_pulsing_pulse {e : EventUnit} (h : e.lineMode = .pulse) (named : Categories)
    (again records : Bool) :
    (e.ack named again records).pulsing =
      (e.pulsing || (named.completion && again && !e.mask.completion)
        || (named.notify && records && !e.mask.notify)) := by
  simp [EventUnit.ack, h, Bool.or_assoc]

/-- R146: an acknowledgement, with the pulse that it leaves (R149). -/
theorem EventUnit.ack_eq {e : EventUnit} {named : Categories} {again records pulse : Bool}
    (hpulse : (e.ack named again records).pulsing = pulse) :
    e.ack named again records =
      { e with
        pending :=
          { completion := if named.completion = true then again else e.pending.completion
            notify := if named.notify = true then records else e.pending.notify
            trunk := if named.trunk = true then false else e.pending.trunk
            fault := if named.fault = true then false else e.pending.fault }
        trunkCauses := e.trunkCauses.clear named.trunk
        faultCauses := e.faultCauses.clear named.fault
        pulsing := pulse } := by
  rw [← hpulse, ← pending_and_not_named, ← pending_and_not_named]
  rfl

/-- R146: what ACK_EVENTS does, with the condition on the mailbox in the manual's words (R145). -/
theorem exec_ackEvents {s : State} {named : Byte} (hopen : s.openFor .ackEvents [named])
    (hs : s.ctl.station ≠ .loading) :
    exec (.ackEvents named) s = .next
      ((s.onEvents fun e =>
        e.ack (Categories.ofByte named) s.completionAgain (decide (s.mailbox.records ≠ []))).answer
          .ackEvents .done []) := by
  have hrecords : (!s.mailbox.records.isEmpty) = decide (s.mailbox.records ≠ []) := by
    cases s.mailbox.records <;> rfl
  rw [exec_of_openFor (i := .ackEvents named) rfl rfl hopen, State.takeByCode, State.takeAckEvents,
    State.ifPermitted_of_loaded rfl hs, hrecords]
  rfl

/-- Settles O18: the acknowledgement of the categories named, by line mode. -/
theorem ackEventsClearsAndReEvaluates : Obligations.AckEventsClearsAndReEvaluates := by
  intro named s hopen hs again records
  rw [exec_ackEvents hopen hs, State.onEvents]
  cases hmode : s.events.lineMode with
  | level =>
    rw [EventUnit.ack_eq (EventUnit.ack_pulsing_level hmode ..)]
    rfl
  | pulse =>
    rw [EventUnit.ack_eq (EventUnit.ack_pulsing_pulse hmode ..)]
    rfl

/-! ### The line mode and HINT# (R148 to R150) -/

/-- R186: code 0 names LEVEL. -/
theorem lineModeOf_zero {code : Byte} (h : code.toNat = 0) : lineModeOf code = some .level := by
  have hcode : code = 0 := BitVec.eq_of_toNat_eq h
  rw [hcode]
  rfl

/-- R186: code 1 names PULSE. -/
theorem lineModeOf_one {code : Byte} (h : code.toNat = 1) : lineModeOf code = some .pulse := by
  have hcode : code = 1 := BitVec.eq_of_toNat_eq h
  rw [hcode]
  rfl

/-- R163: no code from 2 on names a line mode. -/
theorem lineModeOf_ge_two {code : Byte} (h : 2 ≤ code.toNat) : lineModeOf code = none := by
  have h0 : code ≠ 0 := by rintro rfl; simp at h
  have h1 : code ≠ 1 := by rintro rfl; simp at h
  rw [lineModeOf, if_neg h0, if_neg h1]

/-- R150: the mode is taken, and a pulse in progress goes on only when the mode stays. -/
theorem EventUnit.setLineMode_eq (e : EventUnit) (m : LineMode) :
    e.setLineMode m = { e with lineMode := m, pulsing := if m = e.lineMode then e.pulsing else false } := by
  unfold EventUnit.setLineMode
  split
  · next h => subst h; simp
  · next h => rw [if_neg (Ne.symm h)]

/-- R150: a code that names a mode is taken with DONE. -/
theorem exec_setLineMode_done {s : State} {code : Byte} {m : LineMode} (hopen : s.openFor .setLineMode [code])
    (hs : s.ctl.station ≠ .loading) (hcode : lineModeOf code = some m) :
    exec (.setLineMode code) s = .next
      ((s.onEvents fun e =>
        { e with lineMode := m, pulsing := if m = e.lineMode then e.pulsing else false }).answer
          .setLineMode .done []) := by
  rw [exec_of_openFor (i := .setLineMode code) rfl rfl hopen, State.takeByCode, State.takeSetLineMode,
    State.ifPermitted_of_loaded rfl hs]
  have hbyte : byteAt [code] 0 = code := rfl
  rw [hbyte, hcode, ← funext (EventUnit.setLineMode_eq · m)]

/-- R163: a code that names no mode is answered CONFIG_INVALID. -/
theorem exec_setLineMode_configInvalid {s : State} {code : Byte} (hopen : s.openFor .setLineMode [code])
    (hs : s.ctl.station ≠ .loading) (hcode : lineModeOf code = none) :
    exec (.setLineMode code) s = .next (s.answer .setLineMode .configInvalid []) := by
  rw [exec_of_openFor (i := .setLineMode code) rfl rfl hopen, State.takeByCode, State.takeSetLineMode,
    State.ifPermitted_of_loaded rfl hs]
  have hbyte : byteAt [code] 0 = code := rfl
  rw [hbyte, hcode]

/-- R148: the line law in LEVEL mode, for a station not held: HINT# shows whether the active set is non-empty. -/
theorem State.hintAsserted_level {s : State} (hheld : s.held = false) (hmode : s.events.lineMode = .level) :
    s.hintAsserted = s.events.active := by
  simp [State.hintAsserted, hheld, hmode]

/-- R149: in PULSE mode HINT# is asserted while a pulse is driven. -/
theorem State.hintAsserted_pulse {s : State} (hheld : s.held = false) (hmode : s.events.lineMode = .pulse) :
    s.hintAsserted = s.events.pulsing := by
  simp [State.hintAsserted, hheld, hmode]

/-- Settles O20: each code by what it names, the end of a pulse, and HINT# by line mode. -/
theorem interruptLine : Obligations.InterruptLine := by
  refine fun code s => ⟨fun hopen hs => ⟨fun m hcode => ?_, fun hcode => ?_⟩, rfl, fun hheld => ?_⟩
  · have hnamed : lineModeOf code = some m := by
      cases m with
      | level => exact lineModeOf_zero hcode
      | pulse => exact lineModeOf_one hcode
    exact exec_setLineMode_done hopen hs hnamed
  · exact exec_setLineMode_configInvalid hopen hs (lineModeOf_ge_two hcode)
  · cases hmode : s.events.lineMode with
    | level => exact State.hintAsserted_level hheld hmode
    | pulse => exact State.hintAsserted_pulse hheld hmode

end Sys2Proof.Machine
end

section
/-! PROOFS. Chapter 10 (the host port): the commands that the station state permits (O12), and the reports of STATUS
and READ_PRESENCE (O13), with the bytes of a response. -/

namespace Sys2Proof.Machine

/-! ### The commands that the station state permits (R158) -/

/-- R155: the command has been taken, with a result of its own rule. -/
def State.answeredByRule (t : State) (c : HostCode) : Prop :=
  t.host.decoder = .response ∧ ∃ r, t.host.taken = some (c, r) ∧ r ≠ .wrongState

/-- R158: every command asks the station state first: where it is refused, the response is that of its row, and
where it is permitted, its own rule answers it. -/
theorem State.takeByCode_eq_ifPermitted {i : Instr} {c : HostCode} {ops refused : List Byte}
    (hrow : hostRow i = some (c, ops, refused)) (hwf : i.wf = true) (s : State) :
    ∃ carryOut : State → State,
      s.takeByCode c ops = s.ifPermitted c refused carryOut ∧ (carryOut s).answeredByRule c := by
  cases i
  case configRead x =>
    cases hrow
    rw [State.takeByCode, ConfigItem.ofBytes_bytes x hwf, State.takeConfigRead]
    refine ⟨_, rfl, ?_⟩
    repeat' split
    all_goals exact ⟨rfl, _, rfl, nofun⟩
  all_goals cases hrow
  all_goals
    simp only [State.takeByCode, State.takeStatus, State.takeSubmit, State.takeTakeCompletion, State.takeTakeNotify,
      State.takeReadEvents, State.takeAckEvents, State.takeSetMask, State.takeSetThreshold, State.takeSetLineMode,
      State.takeReadPresence, State.takeReadCounters, State.takeClearCounters, State.takeReadFault,
      State.takeConfigWrite, State.takeJoin, State.takeLeave, State.takeAbort, State.takeRestart]
    refine ⟨_, rfl, ?_⟩
    repeat' split
    all_goals exact ⟨rfl, _, rfl, nofun⟩

/-- Settles O12: the station state is asked first, and the command's own rule only after it. -/
theorem wrongStateChangesNothing : Obligations.WrongStateChangesNothing := by
  intro i c ops refused s hrow hwf hopen
  obtain ⟨carryOut, htaken, hresponse, r, hresult, hrule⟩ := s.takeByCode_eq_ifPermitted hrow hwf
  rw [exec_of_openFor hrow hwf hopen, htaken]
  refine ⟨fun hrefused => ?_, fun hpermitted => ?_⟩
  · rw [State.ifPermitted_of_refused (by simpa [HostCode.permitted_eq] using hrefused)]
    rfl
  · rw [State.ifPermitted_of_permitted (by simpa [HostCode.permitted_eq] using hpermitted)]
    exact ⟨carryOut s, r, rfl, hresponse, hresult, hrule⟩

/-! ### The bytes of a response (log entry 2) -/

/-- A byte of a response as it is sent, with this byte in its open bits. -/
def OutByte.sent (b : OutByte) (free : Byte) : Byte := b.bits ||| (free &&& b.loose)

theorem outBytes_cons (k pos : Nat) (b : OutByte) (rest : List OutByte) :
    outBytes k pos (b :: rest) = b.sent (Config.freeByte k pos) :: outBytes k (pos + 1) rest := rfl

/-- A byte whose bits are all stated is sent as it is. -/
@[simp] theorem OutByte.sent_exactly (b free : Byte) : (OutByte.exactly b).sent free = b := by
  simp [OutByte.sent, OutByte.exactly]

/-- A bit that the layout states is sent as it is. -/
theorem OutByte.getLsbD_sent {bits loose : Byte} {i : Nat} (h : loose.getLsbD i = false) (free : Byte) :
    (OutByte.sent ⟨bits, loose⟩ free).getLsbD i = bits.getLsbD i := by
  simp [OutByte.sent, h]

/-- A run of bytes whose bits are all stated is sent as it is. -/
theorem outBytes_map_exactly (k : Nat) (bs : List Byte) (rest : List OutByte) (pos : Nat) :
    outBytes k pos (bs.map .exactly ++ rest) = bs ++ outBytes k (pos + bs.length) rest := by
  induction bs generalizing pos with
  | nil => rfl
  | cons b bs ih =>
    rw [List.map_cons, List.cons_append, outBytes_cons, OutByte.sent_exactly, ih, List.length_cons, List.cons_append,
      Nat.add_right_comm, Nat.add_assoc]

/-- The bits of a flag set at place `i` of a byte. -/
theorem getLsbD_bitAt (b : Bool) (i j : Nat) : (bitAt b i).getLsbD j = (b && decide (i = j ∧ j < 8)) := by
  cases b with
  | false => simp [bitAt]
  | true =>
    rw [Bool.eq_iff_iff]
    simp [bitAt]
    omega

/-! ### STATUS (R159) -/

/-- R186: the four categories in the lower bits of a byte. -/
theorem Categories.getLsbD_byte (c : Categories) :
    c.byte.getLsbD 0 = c.completion ∧ c.byte.getLsbD 1 = c.notify ∧ c.byte.getLsbD 2 = c.trunk
      ∧ c.byte.getLsbD 3 = c.fault := by
  simp only [Categories.byte, BitVec.getLsbD_or, getLsbD_bitAt]
  simp

/-- R159: the entries not FREE, counted over all tags. -/
theorem State.nonFree_eq_countP (s : State) :
    s.nonFree = (List.finRange 16).countP fun t => decide ((s.entry t).state ≠ .free) := by
  have hall : allTags = List.finRange 16 := by decide
  rw [State.nonFree, hall, ← List.countP_eq_length_filter]
  rfl

/-- R159: what STATUS does. -/
theorem exec_status {s : State} (hopen : s.openFor .status []) (hs : s.ctl.station ≠ .loading) :
    exec .status s = .next (s.answerLoose .status .done (statusLayout s)) := by
  rw [exec_of_openFor (i := .status) rfl rfl hopen, State.takeByCode, State.takeStatus,
    State.ifPermitted_of_loaded rfl hs]

/-! ### READ_PRESENCE (R160) -/

/-- R160: what READ_PRESENCE does. -/
theorem exec_readPresence {s : State} (hopen : s.openFor .readPresence []) (hs : s.ctl.station ≠ .loading) :
    exec .readPresence s = .next (s.answer .readPresence .done (presenceBytes s.presence.table)) := by
  rw [exec_of_openFor (i := .readPresence) rfl rfl hopen, State.takeByCode, State.takeReadPresence,
    State.ifPermitted_of_loaded rfl hs]

theorem Presence.code_lt (p : Presence) : p.code < 4 := by cases p <;> simp [Presence.code]

/-- Entry `i` of the four that share a byte of READ_PRESENCE with entry `n`. -/
def presenceMate (n : StationNo) (i : Fin 4) : StationNo := ⟨4 * (n.val / 4) + i.val, by omega⟩

/-- An entry is its own mate at its own place. -/
theorem presenceMate_self (n : StationNo) : presenceMate n ⟨n.val % 4, Nat.mod_lt _ (by decide)⟩ = n :=
  Fin.ext (Nat.div_add_mod n.val 4)

/-- The byte that holds entry `n` holds its four mates in order. -/
theorem presenceBytes_getD (p : Vector Presence 16) (n : StationNo) :
    (presenceBytes p).getD (n.val / 4) 0 =
      presenceByte p (presenceMate n 0) (presenceMate n 1) (presenceMate n 2) (presenceMate n 3) := by
  fin_cases n <;> rfl

/-- R186: four codes of two bits each in one byte, the first in the top bits, are read back from it. -/
theorem natByte_field (code : Fin 4 → Nat) (h : ∀ i, code i < 4) (i : Fin 4) :
    (natByte (64 * code 0 + 16 * code 1 + 4 * code 2 + code 3)).toNat / 4 ^ (3 - i.val) % 4 = code i := by
  have h0 := h 0
  have h1 := h 1
  have h2 := h 2
  have h3 := h 3
  have hlt : 64 * code 0 + 16 * code 1 + 4 * code 2 + code 3 < 2 ^ 8 := by omega
  rw [natByte, BitVec.toNat_ofNat, Nat.mod_eq_of_lt hlt]
  fin_cases i
  all_goals
    simp
    omega

/-- R160: entry `n` is read back from its place in the response. -/
theorem presenceBytes_field (p : Vector Presence 16) (n : StationNo) :
    ((presenceBytes p).getD (n.val / 4) 0).toNat / 4 ^ (3 - n.val % 4) % 4 = (p[n]).code := by
  have hplace := natByte_field (fun i => (p[presenceMate n i]).code) (fun _ => Presence.code_lt _)
    ⟨n.val % 4, Nat.mod_lt _ (by decide)⟩
  simp only [presenceMate_self] at hplace
  rw [presenceBytes_getD]
  exact hplace

/-- R186: the last byte of STATUS, which alone has open bits. -/
def statusFlags (s : State) : OutByte := ⟨s.events.pending.byte, 0xF0⟩

/-- R159, R186: the response of STATUS, as sent. -/
theorem outBytes_statusLayout (s : State) (k : Nat) :
    outBytes k 0 (statusLayout s) =
      [s.ctl.station.byte, s.ctl.loadResult.byte, s.access.sync.byte, natByte s.issue.requestQueue.length,
        natByte ((List.finRange 16).countP fun t => decide ((s.entry t).state ≠ .free)),
        natByte s.completion.queue.length, natByte s.completion.retire.length, natByte s.mailbox.records.length,
        (statusFlags s).sent (Config.freeByte k 8)] := by
  simp only [statusLayout, outBytes_cons, OutByte.sent_exactly, State.nonFree_eq_countP]
  rfl

/-- R186: the pending flags stand in the lower bits of the last byte, whatever the upper ones are. -/
theorem getLsbD_statusFlags (s : State) (free : Byte) :
    ((statusFlags s).sent free).getLsbD 0 = s.events.pending.completion
      ∧ ((statusFlags s).sent free).getLsbD 1 = s.events.pending.notify
      ∧ ((statusFlags s).sent free).getLsbD 2 = s.events.pending.trunk
      ∧ ((statusFlags s).sent free).getLsbD 3 = s.events.pending.fault := by
  obtain ⟨hcompletion, hnotify, htrunk, hfault⟩ := s.events.pending.getLsbD_byte
  exact ⟨(OutByte.getLsbD_sent rfl free).trans hcompletion, (OutByte.getLsbD_sent rfl free).trans hnotify,
    (OutByte.getLsbD_sent rfl free).trans htrunk, (OutByte.getLsbD_sent rfl free).trans hfault⟩

/-- Settles O13: STATUS by its layout, READ_PRESENCE entry by entry. -/
theorem statusAndPresenceReport : Obligations.StatusAndPresenceReport := by
  refine ⟨fun s hopen hs => ?_, fun s hopen hs => ?_⟩
  · refine ⟨_, ?_, getLsbD_statusFlags s (Config.freeByte s.freeIndex 8)⟩
    rw [exec_status hopen hs, State.answerLoose, outBytes_statusLayout]
    rfl
  · refine ⟨_, _, _, _, exec_readPresence hopen hs, fun n => ?_⟩
    have hfield := presenceBytes_field s.presence.table n
    cases hn : s.presence.table[n] <;> rwa [hn] at hfield

end Sys2Proof.Machine
end

section
/-! PROOFS. Chapter 10 (the host port): CONFIG_READ (O21) and JOIN (O24). -/

namespace Sys2Proof.Machine

/-! ### CONFIG_READ (R164) -/

/-- R186: a 16-bit number is sent as its quotient and its remainder by 256. -/
theorem bytes2_eq_ofNat (v : BitVec 16) : bytes2 v = [BitVec.ofNat 8 (v.toNat / 256), BitVec.ofNat 8 v.toNat] := by
  simp [bytes2, BitVec.extractLsb', Nat.shiftRight_eq_div_pow]

/-- R186: CT as CONFIG_READ sends it. -/
theorem bytes2_ct (ct : BitVec 12) :
    bytes2 (ct.setWidth 16) = [BitVec.ofNat 8 (ct.toNat / 256), BitVec.ofNat 8 ct.toNat] := by
  have hwide : (ct.setWidth 16).toNat = ct.toNat := BitVec.toNat_setWidth_of_le (by decide)
  rw [bytes2_eq_ofNat, hwide]

/-- R164: the index byte of a window names that window. -/
theorem windowOfByte_ofNat (w : WindowIdx) : windowOfByte (BitVec.ofNat 8 w.val) = some w := by
  revert w
  decide

/-- R164: an index outside 0..7 names no window. -/
theorem windowOfByte_ge {b : Byte} (h : 8 ≤ b.toNat) : windowOfByte b = none :=
  dif_neg (Nat.not_lt.mpr h)

/-- R164: a selector that is none of the four is given as naming no item. -/
theorem wf_noItem {sel : Byte} (h1 : sel ≠ 1) (h2 : sel ≠ 2) (h3 : sel ≠ 3) (h4 : sel ≠ 4) :
    (ConfigItem.noItem sel).wf = true := by
  simpa [ConfigItem.wf, namesItem, and_assoc] using ⟨h1, h2, h3, h4⟩

/-- R186: the bits that the layout states in the flags of a window entry, whatever the others are. -/
theorem WindowConfig.getLsbD_flagsByte (w : WindowConfig) (free : Byte) :
    (w.flagsByte.sent free).getLsbD 7 = w.enabled
      ∧ (w.flagsByte.sent free).getLsbD 4 = decide (w.kind = .notify)
      ∧ (w.flagsByte.sent free).getLsbD 5 = false
      ∧ (w.flagsByte.sent free).getLsbD 1 = w.readRight
      ∧ (w.flagsByte.sent free).getLsbD 0 = w.writeRight := by
  refine ⟨(OutByte.getLsbD_sent rfl free).trans ?_, (OutByte.getLsbD_sent rfl free).trans ?_,
    (OutByte.getLsbD_sent rfl free).trans ?_, (OutByte.getLsbD_sent rfl free).trans ?_,
    (OutByte.getLsbD_sent rfl free).trans ?_⟩
  all_goals
    simp only [BitVec.getLsbD_or, getLsbD_bitAt]
    simp [beq_eq_decide]

/-- R186: the last byte of a window entry. -/
def Window.refusalByte (w : Window) : OutByte :=
  match w.lastRefusal with
  | some (reason, src) => .exactly (natByte (128 + 16 * reason.code + src.val))
  | none => ⟨0, 0x7F⟩

/-- R186: the three fields of the last byte, when a refusal is recorded. -/
theorem natByte_refusal (reason : RefusalReason) (src : StationNo) :
    (natByte (128 + 16 * reason.code + src.val)).getLsbD 7 = true
      ∧ (natByte (128 + 16 * reason.code + src.val)).toNat % 16 = src.val
      ∧ (natByte (128 + 16 * reason.code + src.val)).toNat / 16 % 8 = reason.code := by
  have hcode : reason.code < 8 := by cases reason <;> decide
  have hbyte : (natByte (128 + 16 * reason.code + src.val)).toNat = 128 + 16 * reason.code + src.val :=
    Nat.mod_eq_of_lt (by omega)
  rw [BitVec.getLsbD, Nat.testBit_eq_decide_div_mod_eq, decide_eq_true_eq, hbyte]
  omega

/-- R186: the last byte says whether a refusal is recorded. -/
theorem Window.getLsbD_refusalByte (w : Window) (free : Byte) :
    (w.refusalByte.sent free).getLsbD 7 = w.lastRefusal.isSome := by
  unfold Window.refusalByte
  split
  · next reason src h =>
    rw [OutByte.sent_exactly, h]
    exact (natByte_refusal reason src).1
  · next h =>
    rw [OutByte.getLsbD_sent rfl, h]
    rfl

/-- R186: the last byte gives the refusal recorded. -/
theorem Window.toNat_refusalByte {w : Window} {reason : RefusalReason} {src : StationNo}
    (h : w.lastRefusal = some (reason, src)) (free : Byte) :
    (w.refusalByte.sent free).toNat % 16 = src.val ∧ (w.refusalByte.sent free).toNat / 16 % 8 = reason.code := by
  rw [Window.refusalByte, h]
  simpa using (natByte_refusal reason src).2

/-- R186: a window entry as it is sent. -/
theorem Window.outBytes_layout (w : Window) (k : Nat) :
    outBytes k 0 w.layout =
      w.config.flagsByte.sent (Config.freeByte k 0) :: bytes4 w.config.trunkBase ++ bytes3 w.config.length
        ++ bytes3 w.config.localBase ++ bytes2 w.config.allowed
        ++ w.conflictCount :: bytes2 w.refusalCount ++ [w.refusalByte.sent (Config.freeByte k 16)] := by
  rw [Window.layout, outBytes_cons, outBytes_map_exactly]
  rfl

/-- R164: what CONFIG_READ of a well-formed item does. -/
theorem exec_configRead {x : ConfigItem} {s : State} (hwf : x.wf = true) (hopen : s.openFor .configRead x.bytes) :
    exec (.configRead x) s = .next (s.takeConfigRead x) := by
  rw [exec_of_openFor (i := .configRead x) rfl hwf hopen, State.takeByCode, ConfigItem.ofBytes_bytes x hwf]

/-- R164: in CONFIG a window is reported as it stands. -/
theorem exec_configRead_window {s : State} {index : Byte} {w : WindowIdx} (hs : s.ctl.station = .config)
    (hindex : windowOfByte index = some w) (hopen : s.openFor .configRead [0x04, index]) :
    exec (.configRead (.window index)) s = .next (s.answerLoose .configRead .done (s.windows[w]).layout) := by
  rw [exec_configRead rfl hopen, State.takeConfigRead, State.ifPermitted_of_permitted (by rw [hs]; rfl)]
  simp only [hindex]

/-- R164: in CONFIG an index that names no window is answered CONFIG_INVALID. -/
theorem exec_configRead_noWindow {s : State} {index : Byte} (hs : s.ctl.station = .config)
    (hindex : windowOfByte index = none) (hopen : s.openFor .configRead [0x04, index]) :
    exec (.configRead (.window index)) s = .next (s.answer .configRead .configInvalid (fillers 17)) := by
  rw [exec_configRead rfl hopen, State.takeConfigRead, State.ifPermitted_of_permitted (by rw [hs]; rfl)]
  simp only [hindex]

/-- Settles O21: item by item, and for a window byte by byte. -/
theorem configReadReports : Obligations.ConfigReadReports := by
  intro s hs answered
  have hp : HostCode.configRead.permitted s.ctl.station = true := by rw [hs]; rfl
  refine ⟨fun hopen => ?_, fun hopen => ?_, fun hopen => ?_, fun w hopen => ?_, fun index hindex hopen => ?_,
    fun sel h1 h2 h3 h4 hopen => ?_⟩
  · rw [exec_configRead rfl hopen, State.takeConfigRead, State.ifPermitted_of_permitted hp]
    rfl
  · rw [exec_configRead rfl hopen, State.takeConfigRead, State.ifPermitted_of_permitted hp, bytes2_ct]
    rfl
  · rw [exec_configRead rfl hopen, State.takeConfigRead, State.ifPermitted_of_permitted hp]
    rfl
  · obtain ⟨henabled, hkind, hreserved, hread, hwrite⟩ :=
      (s.windows[w]).config.getLsbD_flagsByte (Config.freeByte s.freeIndex 0)
    refine ⟨_, _, ?_, henabled, hkind, hreserved, hread, hwrite,
      (s.windows[w]).getLsbD_refusalByte (Config.freeByte s.freeIndex 16), fun reason src hlast => ?_⟩
    · rw [exec_configRead_window hs (windowOfByte_ofNat w) hopen, State.answerLoose, Window.outBytes_layout]
      rfl
    · have hfields := Window.toNat_refusalByte hlast (Config.freeByte s.freeIndex 16)
      cases reason <;> exact hfields
  · rw [exec_configRead_noWindow hs (windowOfByte_ge hindex) hopen]
    rfl
  · rw [exec_configRead (wf_noItem h1 h2 h3 h4) hopen, State.takeConfigRead, State.ifPermitted_of_permitted hp]
    rfl

/-! ### JOIN (R166, R177) -/

/-- R166: work of the last stay is asked for first. -/
theorem State.takeJoin_busy {s : State} (hs : s.ctl.station = .config) (hbusy : s.joinBusy = true) :
    s.takeJoin = s.answer .join .ortBusy (fillers 2) := by
  rw [State.takeJoin, State.ifPermitted_of_permitted (by rw [hs]; rfl), if_pos hbusy]

/-- R166: the working configuration is checked next. -/
theorem State.takeJoin_invalid {s : State} {reason : JoinReason} {w : Option WindowIdx}
    (hs : s.ctl.station = .config) (hidle : ¬ s.joinBusy = true)
    (hfault : joinFault s.windows s.ctl.ct = some (reason, w)) :
    s.takeJoin = s.answer .join .configInvalid (joinFaultBytes reason w) := by
  rw [State.takeJoin, State.ifPermitted_of_permitted (by rw [hs]; rfl), if_neg hidle, hfault]

/-- R166: with no fault found the station enters JOINING. -/
theorem State.takeJoin_done {s : State} (hs : s.ctl.station = .config) (hidle : ¬ s.joinBusy = true)
    (hvalid : joinFault s.windows s.ctl.ct = none) :
    s.takeJoin = s.enterJoining.answer .join .done (fillers 2) := by
  rw [State.takeJoin, State.ifPermitted_of_permitted (by rw [hs]; rfl), if_neg hidle, hvalid]

/-- R166: a TIF that is quiet has no own frame on the wire. -/
theorem State.tx_none_of_not_joinBusy {s : State} (hidle : ¬ s.joinBusy = true) : s.tif.tx = none := by
  simp_all [State.joinBusy, State.tifQuiet]

/-- Settles O24: one lemma for each of the three answers, in the order of R166. -/
theorem joinEntersJoining : Obligations.JoinEntersJoining := by
  intro s hopen hs busy answered
  have hbusy : s.joinBusy = true ↔ busy := s.joinBusy_iff
  rw [← hbusy, exec_of_openFor (i := .join) rfl rfl hopen, State.takeByCode]
  refine ⟨fun h => ?_, fun reason w h hfault => ?_, fun h hvalid => ?_⟩
  · rw [State.takeJoin_busy hs h]
    rfl
  · rw [State.takeJoin_invalid hs h hfault]
    cases reason <;> cases w <;> rfl
  · rw [State.takeJoin_done hs h hvalid, State.enterJoining, State.tx_none_of_not_joinBusy h]
    rfl

end Sys2Proof.Machine
end

section
/-! PROOFS. Chapter 11 (station lifecycle): what ABORT does to each block (O26). The facts about the ORT entries and the
Target Engine are those of entry to DETACHED too. -/

namespace Sys2Proof.Machine

/-! ### The requests of an ended stay (R114, R115) -/

/-- R114: an entry whose memory operation is in flight gets the ending mark. -/
theorem OrtEntry.abort_inFlight {e : OrtEntry} (h : e.state = .fetching ∨ e.state = .storing) :
    e.abort true = { e with endingMark := true } := by
  obtain h | h := h <;> rw [OrtEntry.abort, h] <;> rfl

/-- R114: an entry whose memory operation is not granted is ended, and the operation withdrawn. -/
theorem OrtEntry.abort_withdrawn {e : OrtEntry} (h : e.state = .fetching ∨ e.state = .storing) :
    e.abort false = e.finish .aborted := by
  obtain h | h := h <;> rw [OrtEntry.abort, h] <;> rfl

/-- R114: an entry that waits for the trunk, for its holdoff or for a completion is ended. -/
theorem OrtEntry.abort_ended {e : OrtEntry}
    (h : e.state = .ready ∨ (∃ k, e.state = .hold k) ∨ ∃ k, e.state = .awaiting k) (granted : Bool) :
    e.abort granted = e.finish .aborted := by
  obtain h | ⟨k, h⟩ | ⟨k, h⟩ := h <;> rw [OrtEntry.abort, h]

/-- R114: an entry with no request under way stays as it is. -/
theorem OrtEntry.abort_kept {e : OrtEntry} (h : e.state = .free ∨ e.state = .done) (granted : Bool) :
    e.abort granted = e := by
  obtain h | h := h <;> rw [OrtEntry.abort, h]

/-- R115: a quarantined tag is given up. -/
theorem OrtEntry.abort_stale {e : OrtEntry} {k : Nat} (h : e.state = .stale k) (granted : Bool) :
    e.abort granted = OrtEntry.blank := by
  rw [OrtEntry.abort, h]

/-- R114: the entries that end at once are those that become DONE and were not so before. -/
theorem OrtEntry.endsAtAbort_iff (e : OrtEntry) (granted : Bool) :
    e.endsAtAbort granted = true ↔ e.state ≠ .done ∧ (e.abort granted).state = .done := by
  unfold OrtEntry.endsAtAbort OrtEntry.abort
  cases h : e.state <;> cases granted <;> simp [h, OrtEntry.finish, OrtEntry.blank]

/-- R114: the tags that join the retire list stand in issue order, and are those of the entries that end at once. -/
theorem State.abortRequests_retire (s : State) :
    ∃ joined : List Tag, s.abortRequests.completion.retire = s.completion.retire ++ joined
      ∧ joined.Sublist s.ort.issueOrder
      ∧ ∀ g, g ∈ joined ↔
        g ∈ s.ort.issueOrder ∧ (s.entry g).state ≠ .done ∧ (s.abortRequests.entry g).state = .done := by
  refine ⟨s.ort.issueOrder.filter (fun g => (s.entry g).endsAtAbort (s.granted g)), rfl, List.filter_sublist,
    fun g => ?_⟩
  rw [List.mem_filter, OrtEntry.endsAtAbort_iff, State.abortRequests_entry]

/-- R115: the quarantined tags alone leave the issue order. -/
theorem State.mem_abortRequests_issueOrder (s : State) (g : Tag) :
    g ∈ s.abortRequests.ort.issueOrder ↔ g ∈ s.ort.issueOrder ∧ ∀ k, (s.entry g).state ≠ .stale k := by
  simp [State.abortRequests, ← Bool.not_eq_true, OrtEntry.isStale_iff]

/-- R114, R115: every request is ended. -/
theorem State.abortRequests_requestsEnded (s : State) : RequestsEnded s s.abortRequests where
  inFlight g h hgranted := by rw [State.abortRequests_entry, hgranted, OrtEntry.abort_inFlight h]
  withdrawn g h hgranted := by
    rw [State.abortRequests_entry, hgranted, OrtEntry.abort_withdrawn h]
    rfl
  ended g h := by
    rw [State.abortRequests_entry, OrtEntry.abort_ended h]
    rfl
  kept g h := by rw [State.abortRequests_entry, OrtEntry.abort_kept h]
  stale g k h := by
    rw [State.abortRequests_entry, OrtEntry.abort_stale h]
    rfl
  retire := s.abortRequests_retire
  order := ⟨List.filter_sublist, s.mem_abortRequests_issueOrder⟩
  unsent := rfl
  records := rfl

/-- What ends the requests is seen in the ORT, the unsent list and the Completion Unit alone. -/
theorem RequestsEnded.of_blocks_eq {s t u : State} (h : RequestsEnded s t) (hort : u.ort = t.ort)
    (hunsent : u.issue.unsent = t.issue.unsent) (hcompletion : u.completion = t.completion) : RequestsEnded s u := by
  have hentry : ∀ g, u.entry g = t.entry g := fun g => by rw [State.entry, State.entry, hort]
  constructor <;> simp only [hentry, hort, hunsent, hcompletion]
  exacts [h.inFlight, h.withdrawn, h.ended, h.kept, h.stale, h.retire, h.order, h.unsent, h.records]

/-! ### The mark of the slot under way (R30, R23) -/

/-- The slot under way as ABORT leaves it: a mark not yet begun is dropped, and an exchange in which the station then
has no part is followed no longer. -/
def Exchange.afterAbort (x : Option Exchange) : Option Exchange :=
  (x.map (fun e => if e.begun then e else { e with mark := .none })).filter (fun e => !e.uninvolved)

/-- Log entry 11: with no own frame in it and no mark being driven, the slot is followed no longer. -/
theorem Exchange.afterAbort_uninvolved {e : Exchange} (hsender : e.sender = none)
    (hmark : e.begun = false ∨ e.mark = .none) : afterAbort (some e) = none := by
  cases hb : e.begun <;> simp_all [afterAbort, uninvolved, Option.filter]

/-- R30: a mark being driven is held. -/
theorem Exchange.afterAbort_driven {e : Exchange} (hbegun : e.begun = true) (hmark : e.mark ≠ .none) :
    afterAbort (some e) = some e := by
  simp [afterAbort, uninvolved, Option.filter, hbegun, hmark]

/-- R22, R30: the slot of an own frame is still read, without a mark that has not begun. -/
theorem Exchange.afterAbort_sender_notBegun {e : Exchange} {o : Origin} (hsender : e.sender = some o)
    (hbegun : e.begun = false) : afterAbort (some e) = some { e with mark := .none } := by
  simp [afterAbort, uninvolved, Option.filter, hsender, hbegun]

/-- R22: the slot of an own frame that has begun goes on. -/
theorem Exchange.afterAbort_sender_begun {e : Exchange} {o : Origin} (hsender : e.sender = some o)
    (hbegun : e.begun = true) : afterAbort (some e) = some e := by
  simp [afterAbort, uninvolved, Option.filter, hsender, hbegun]

/-! ### The row ABORT (R181) -/

/-- R181: the slot under way after ABORT. -/
theorem State.abortStation_exchange {s : State} {x : Option Exchange} (h : s.tif.exchange = x) :
    s.abortStation.tif.exchange = Exchange.afterAbort x := h ▸ rfl

/-- R158: the station states in which ABORT is permitted. -/
theorem abort_permitted {st : StationState} (h : st ∈ [StationState.joining, .online, .draining, .detached]) :
    HostCode.abort.permitted st = true := by
  revert h
  cases st <;> decide

/-- R167, R181: ABORT taken where it is permitted. -/
theorem exec_abort {s : State} (hopen : s.openFor .abort [])
    (hstation : s.ctl.station ∈ [StationState.joining, .online, .draining, .detached]) :
    exec .abort s =
      .next (s.abortStation.answer .abort .done [BitVec.ofNat 8 s.issue.requestQueue.length]) := by
  rw [exec_of_openFor (i := .abort) rfl rfl hopen, State.takeByCode, State.takeAbort,
    State.ifPermitted_of_permitted (abort_permitted hstation)]
  rfl

/-- Settles O26: the requests and the slot under way have lemmas of their own; every other block is set by one of the
operations of ABORT, and the answer changes the Host Port alone. -/
theorem abortEntersConfig : Obligations.AbortEntersConfig := by
  intro s hopen hstation
  have hrequests : RequestsEnded s (s.abortStation.answer .abort .done [BitVec.ofNat 8 s.issue.requestQueue.length]) :=
    s.abortRequests_requestsEnded.of_blocks_eq rfl rfl rfl
  refine ⟨_, exec_abort hopen hstation, s.abortStation_ctl, rfl, hrequests, ⟨rfl, rfl, rfl⟩, rfl, rfl, rfl, rfl,
    rfl, rfl, fun e he => ?_, State.abortStation_exchange, rfl, rfl⟩
  have hexchange := State.abortStation_exchange he
  exact ⟨fun hsender hmark => hexchange.trans (Exchange.afterAbort_uninvolved hsender hmark),
    fun hbegun hmark => hexchange.trans (Exchange.afterAbort_driven hbegun hmark),
    fun _ hsender hbegun => hexchange.trans (Exchange.afterAbort_sender_notBegun hsender hbegun),
    fun _ hsender hbegun => hexchange.trans (Exchange.afterAbort_sender_begun hsender hbegun)⟩

end Sys2Proof.Machine
end

section
/-! PROOFS. Chapter 10 (the host port): everything a host command can do to the blocks of the station. The laws that
every step keeps rest on it. -/

namespace Sys2Proof.Machine

/-- What a host command other than JOIN, LEAVE and ABORT leaves alone. -/
structure HostFrame (s t : State) : Prop where
  blocks : t = { s with
    ctl := t.ctl
    windows := t.windows
    presence := t.presence
    issue := t.issue
    events := t.events
    host := t.host
    freeIndex := t.freeIndex }
  station : t.ctl.station = s.ctl.station
  unsent : t.issue.unsent = s.issue.unsent

namespace HostFrame

variable {s t : State}

theorem refl (s : State) : HostFrame s s := ⟨rfl, rfl, rfl⟩

/-- A step of the frame decoder. -/
theorem ofHost (s : State) (h : HostPort) : HostFrame s { s with host := h } := ⟨rfl, rfl, rfl⟩

theorem held (h : HostFrame s t) : t.held = s.held := (congrArg State.held h.blocks :)
theorem access (h : HostFrame s t) : t.access = s.access := (congrArg State.access h.blocks :)
theorem tif (h : HostFrame s t) : t.tif = s.tif := (congrArg State.tif h.blocks :)
theorem target (h : HostFrame s t) : t.target = s.target := (congrArg State.target h.blocks :)
theorem ort (h : HostFrame s t) : t.ort = s.ort := (congrArg State.ort h.blocks :)
theorem completion (h : HostFrame s t) : t.completion = s.completion := (congrArg State.completion h.blocks :)
theorem mailbox (h : HostFrame s t) : t.mailbox = s.mailbox := (congrArg State.mailbox h.blocks :)
theorem port (h : HostFrame s t) : t.port = s.port := (congrArg State.port h.blocks :)
theorem localMem (h : HostFrame s t) : t.localMem = s.localMem := (congrArg State.localMem h.blocks :)
theorem onTrunk (h : HostFrame s t) : t.onTrunk = s.onTrunk := by rw [State.onTrunk, State.onTrunk, h.station]

end HostFrame

/-- R155: every command of the host but JOIN, LEAVE and ABORT keeps to its frame. -/
theorem State.takeByCode_hostFrame (s : State) (c : HostCode) (bs : List Byte)
    (h : c ∉ [HostCode.join, .leave, .abort]) : HostFrame s (s.takeByCode c bs) := by
  cases c
  case join | leave | abort => simp at h
  all_goals
    simp only [State.takeByCode, State.takeStatus, State.takeSubmit, State.takeTakeCompletion, State.takeTakeNotify,
      State.takeReadEvents, State.takeAckEvents, State.takeSetMask, State.takeSetThreshold, State.takeSetLineMode,
      State.takeReadPresence, State.takeReadCounters, State.takeClearCounters, State.takeReadFault,
      State.takeConfigRead, State.takeConfigWrite, State.takeRestart, State.ifPermitted]
    repeat' split
    all_goals exact ⟨rfl, rfl, rfl⟩

/-- Everything a command of the host, or the byte that completes it, can do to the station: keep to the frame, or
JOIN, LEAVE, ABORT carried out. -/
inductive HostStep (s : State) : State → Prop
  | frame {t : State} (h : HostFrame s t) : HostStep s t
  | joined (station : s.ctl.station = .config) (idle : ¬ s.joinBusy = true)
      (valid : joinFault s.windows s.ctl.ct = none) : HostStep s (s.enterJoining.answer .join .done (fillers 2))
  | left (station : s.ctl.station = .online) :
      HostStep s ({ s with ctl := { s.ctl with station := .draining } }.answer .leave .done [])
  | aborted (station : s.ctl.station ∈ [StationState.joining, .online, .draining, .detached]) (count : Byte) :
      HostStep s (s.abortStation.answer .abort .done [count])

/-- R166: JOIN taken. -/
theorem HostStep.takeJoin (s : State) : HostStep s s.takeJoin := by
  unfold State.takeJoin State.ifPermitted
  split
  · next hp =>
    have hs : s.ctl.station = .config := by
      revert hp
      cases s.ctl.station <;> decide
    dsimp only
    split
    · exact .frame ⟨rfl, rfl, rfl⟩
    · next hidle =>
      split
      · exact .frame ⟨rfl, rfl, rfl⟩
      · next hvalid => exact .joined hs hidle hvalid
  · exact .frame ⟨rfl, rfl, rfl⟩

/-- R179: LEAVE taken. -/
theorem HostStep.takeLeave (s : State) : HostStep s s.takeLeave := by
  unfold State.takeLeave State.ifPermitted
  split
  · next hp =>
    refine .left ?_
    revert hp
    cases s.ctl.station <;> decide
  · exact .frame ⟨rfl, rfl, rfl⟩

/-- R181: ABORT taken. -/
theorem HostStep.takeAbort (s : State) : HostStep s s.takeAbort := by
  unfold State.takeAbort State.ifPermitted
  split
  · next hp =>
    refine .aborted ?_ _
    revert hp
    cases s.ctl.station <;> decide
  · exact .frame ⟨rfl, rfl, rfl⟩

theorem HostStep.takeByCode (s : State) (c : HostCode) (bs : List Byte) : HostStep s (s.takeByCode c bs) := by
  by_cases hc : c ∈ [HostCode.join, .leave, .abort]
  · simp only [List.mem_cons, List.not_mem_nil, or_false] at hc
    obtain rfl | rfl | rfl := hc
    · exact .takeJoin s
    · exact .takeLeave s
    · exact .takeAbort s
  · exact .frame (s.takeByCode_hostFrame c bs hc)

/-- R154: everything a completed byte can do: move the decoder, or take a command. -/
theorem State.byteCompleted_cases (s : State) (b : Byte) :
    (∃ h, s.byteCompleted b = { s with host := h }) ∨ ∃ c bs, s.byteCompleted b = s.takeByCode c bs := by
  unfold State.byteCompleted
  split
  case h_1 | h_5 => exact .inl ⟨s.host, rfl⟩
  case h_4 => exact .inl ⟨_, rfl⟩
  case h_2 =>
    split
    · exact .inl ⟨_, rfl⟩
    · split
      · exact .inr ⟨_, _, rfl⟩
      · exact .inl ⟨_, rfl⟩
  case h_3 =>
    split
    · exact .inr ⟨_, _, rfl⟩
    · exact .inl ⟨_, rfl⟩

/-- R155: everything the row of a host command can do: nothing, or take its command. -/
theorem exec_hostRow_cases {i : Instr} {x : HostCode × List Byte × List Byte} {s t : State}
    (hrow : hostRow i = some x) (h : exec i s = .next t) :
    t = s ∨ s.takes x.1 x.2.1 = true ∧ t = s.takeByCode x.1 x.2.1 := by
  rw [exec_hostRow hrow] at h
  injection h with h
  subst h
  split
  · next hw => exact .inr ⟨(Bool.and_eq_true_iff.mp hw).2, rfl⟩
  · exact .inl rfl

theorem HostStep.exec_hostRow {i : Instr} {x : HostCode × List Byte × List Byte} {s t : State}
    (hrow : hostRow i = some x) (h : exec i s = .next t) : HostStep s t := by
  obtain rfl | ⟨-, rfl⟩ := exec_hostRow_cases hrow h
  · exact .frame (.refl _)
  · exact .takeByCode s _ _

theorem HostStep.execHostByteComplete {b : Byte} {s t : State} (h : Machine.execHostByteComplete b s = .next t) :
    HostStep s t := by
  cases h
  unfold State.unlessHeld
  split
  · exact .frame (.refl s)
  · dsimp only
    obtain ⟨p, h⟩ | ⟨c, bs, h⟩ := s.byteCompleted_cases b <;> rw [h]
    · exact .frame (.ofHost s p)
    · exact .takeByCode s c bs

end Sys2Proof.Machine
end

section
/-! PROOFS. Everything the rows of the trunk side, of the memory port and of the timers can do: one lemma for each row.
The laws that every step keeps rest on them. -/

namespace Sys2Proof.Machine

variable {s t : State}

/-! ### Host frames and the lifecycle -/

/-- R170: everything RESET_RELEASE can do. -/
theorem execResetRelease_cases (h : execResetRelease s = .next t) : t = s ∨ t = { s with held := false } := by
  cases h
  split
  · exact .inr rfl
  · exact .inl rfl

/-- R175: everything END_OF_LOADING can do. -/
theorem execEndOfLoading_cases {eeprom : Option (List Byte)} {straps : StationNo}
    (h : execEndOfLoading eeprom straps s = .next t) :
    t = s ∨ (s.held = false ∧ s.ctl.station = .loading ∧ t = s.endOfLoading eeprom straps) := by
  cases h
  unfold State.unlessHeld
  split
  · exact .inl rfl
  · next hheld =>
    dsimp only
    split
    · next hs => exact .inr ⟨Bool.eq_false_iff.mpr hheld, hs, rfl⟩
    · exact .inl rfl

/-- R175: the three ways loading ends, by what they change beside the configuration. -/
theorem State.endOfLoading_cases (s : State) (eeprom : Option (List Byte)) (straps : StationNo) :
    (∃ f : EventUnit → EventUnit, (f = id ∨ ∃ c r, f = fun e => e.raiseFault c r)
        ∧ s.endOfLoading eeprom straps = ((s.configure eeprom straps).onEvents f).toConfig)
      ∨ (joinFault (s.configure eeprom straps).windows (s.configure eeprom straps).ctl.ct = none
        ∧ s.endOfLoading eeprom straps = (s.configure eeprom straps).enterJoining) := by
  unfold State.endOfLoading
  dsimp only
  split
  · exact .inl ⟨_, .inr ⟨_, _, rfl⟩, rfl⟩
  · split
    · split
      · exact .inr ⟨‹_›, rfl⟩
      · exact .inl ⟨_, .inr ⟨_, _, rfl⟩, rfl⟩
    · exact .inl ⟨id, .inl rfl, rfl⟩

/-- R154: everything HOST_FRAME_START can do. -/
theorem execHostFrameStart_cases (h : execHostFrameStart s = .next t) :
    t = s ∨ t = { s with
      host := { HostPort.atRest with selected := true, decoder := if s.held then .idle else .command } } := by
  cases h
  split
  · exact .inl rfl
  · exact .inr rfl

/-- R157: everything HOST_FRAME_END can do: nothing; end the frame, perhaps counting an error; remove a record taken;
restart the station. -/
theorem execHostFrameEnd_cases (h : execHostFrameEnd s = .next t) :
    t = s ∨ t = { s with host := HostPort.atRest }
      ∨ t = { s.onEvents EventUnit.countHostFrameError with host := HostPort.atRest }
      ∨ t = { s with
          completion := { s.completion with queue := s.completion.queue.tail }, host := HostPort.atRest }
      ∨ t = { s with
          mailbox := { s.mailbox with records := s.mailbox.records.tail }, host := HostPort.atRest }
      ∨ t = { s.resetBlocks s.events.lastFault with host := HostPort.atRest } := by
  cases h
  unfold State.takenFrameEnds
  repeat' split
  all_goals simp

/-- R178: everything JOIN_HOLDOFF_EXPIRY can do. -/
theorem execJoinHoldoffExpiry_cases (h : execJoinHoldoffExpiry s = .next t) :
    t = s ∨ (s.ctl.station = .joining ∧ s.ctl.joinHoldoff = some 0
      ∧ t = { s with
          ctl := { s.ctl with station := .online, joinHoldoff := none }
          presence := { s.presence with beaconTimer := .running beaconInterval, beaconQueued := true } }) := by
  cases h
  split
  · next hj => exact .inr ⟨hj.1, hj.2, rfl⟩
  · exact .inl rfl

/-- R180: everything END_OF_DRAINING can do. -/
theorem execEndOfDraining_cases (h : execEndOfDraining s = .next t) :
    t = s ∨ (s.ctl.station = .draining ∧ s.drained = true ∧ t = s.endDraining) := by
  cases h
  split
  · next hd => exact .inr ⟨hd.1, hd.2, rfl⟩
  · exact .inl rfl

/-! ### The trunk -/

/-- R30: everything SLOT_BEGIN can do. -/
theorem execSlotBegin_cases (h : execSlotBegin s = .next t) :
    t = s ∨ ∃ e, s.tif.exchange = some e ∧ e.begun = false
      ∧ t = s.withExchange (some { e with mark := if s.onTrunk then e.mark else .none, begun := true }) := by
  cases h
  split
  · exact .inl rfl
  · next e he =>
    split
    · exact .inl rfl
    · next hb => exact .inr ⟨e, he, Bool.eq_false_iff.mpr hb, rfl⟩

/-- R29: everything SLOT_END can do. -/
theorem execSlotEnd_cases {cells : SlotCells} (h : execSlotEnd cells s = .next t) :
    t = s ∨ ∃ e u, s.tif.exchange = some e ∧ e.begun = true
      ∧ u = (s.readBack e.mark cells.resolve).handOutcome e.sender cells.resolve
      ∧ t = { u with tif := u.tif.slotEnded u.ctl.number } := by
  cases h
  split
  · exact .inl rfl
  · next e he =>
    split
    · next hb => exact .inr ⟨e, _, he, hb, rfl, rfl⟩
    · exact .inl rfl

/-- R22: everything OWN_FRAME_SENT can do: with the wire free again, an own reception on the trunk, a reception in
DETACHED, and elsewhere the end of the frame alone. -/
theorem execOwnFrameSent_cases (h : execOwnFrameSent s = .next t) :
    t = s ∨ ∃ tx, s.tif.tx = some tx
      ∧ ((s.onTrunk = true
          ∧ t = ({ s with tif := Tif.busyWith none } : State).ownTransmission.receive tx.frame (some tx.origin))
        ∨ (s.ctl.station = .detached
          ∧ t = ({ s with tif := Tif.busyWith none } : State).receive tx.frame (some tx.origin))
        ∨ (s.onTrunk = false ∧ s.ctl.station ≠ .detached
          ∧ t = ({ s with tif := Tif.busyWith none } : State).afterFrame tx.frame (some tx.origin) .none)) := by
  cases h
  split
  · exact .inl rfl
  · next tx htx =>
    refine .inr ⟨tx, htx, ?_⟩
    dsimp only
    split
    · exact .inl ⟨‹_›, rfl⟩
    · split
      · exact .inr (.inl ⟨‹_›, rfl⟩)
      · exact .inr (.inr ⟨Bool.eq_false_iff.mpr ‹_›, ‹_›, rfl⟩)

/-- R24: the own frame on the wire is abandoned, and the collision counted. -/
def State.abandoned (s : State) : State :=
  { s with
    tif := Tif.busyWith none
    target :=
      { s.target with responses := s.target.responses.map (fun r => { r with onTrunk := false }) }
    events := s.events.countCollision }

/-- R24: everything COLLISION can do. -/
theorem execCollision_cases (h : execCollision s = .next t) :
    t = s ∨ (s.tif.tx ≠ none ∧ s.onTrunk = true ∧ t = s.abandoned.accessCollision)
      ∨ (s.tif.tx ≠ none ∧ s.onTrunk = false ∧ t = s.abandoned) := by
  cases h
  split
  · exact .inl rfl
  · next tx htx =>
    dsimp only
    split
    · exact .inr (.inl ⟨by simp [htx], ‹_›, rfl⟩)
    · exact .inr (.inr ⟨by simp [htx], Bool.eq_false_iff.mpr ‹_›, rfl⟩)

/-- R41, R42: sync is lost, and this many collisions in a row are counted. -/
def State.collided (s : State) (n : Nat) : State :=
  { s.loseSync with access := { s.loseSync.access with collisions := n } }

/-- R42: a collision that is not the fourth in a row. -/
theorem State.accessCollision_counted (h : s.access.collisions < 3) :
    s.accessCollision = s.collided (s.access.collisions + 1) := by
  have hmin : min collisionLimit (s.loseSync.access.collisions + 1) = s.access.collisions + 1 :=
    Nat.min_eq_right (by simp [collisionLimit]; omega)
  unfold State.accessCollision
  simp only [hmin]
  exact if_neg (by simp [collisionLimit]; omega)

/-- R42: the fourth collision in a row. -/
theorem State.accessCollision_limit (h : 3 ≤ s.access.collisions) :
    s.accessCollision = (s.collided 4).detach .collisionLimit := by
  have hmin : min collisionLimit (s.loseSync.access.collisions + 1) = 4 :=
    Nat.min_eq_left (by simp [collisionLimit]; omega)
  unfold State.accessCollision
  simp only [hmin]
  exact if_pos rfl

/-- R25: everything a request or COMPLETION frame can do. -/
theorem execFrameReceived_cases {i : Instr} {f : Frame}
    (hi : (∃ r, i = .requestFrameReceived r ∧ f = .request r) ∨ (∃ c, i = .completionFrameReceived c ∧ f = .completion c))
    (h : exec i s = .next t) :
    t = s ∨ (s.receives = true ∧ (t = s.receive f none ∨ t = s.receiveCorrupt true)) := by
  obtain ⟨r, rfl, rfl⟩ | ⟨c, rfl, rfl⟩ := hi
  all_goals
    cases h
    split
    · next hr =>
      refine .inr ⟨hr, ?_⟩
      split
      · exact .inl rfl
      · exact .inr rfl
    · exact .inl rfl

/-- R21: everything BEACON_RECEIVED can do. -/
theorem execBeaconReceived_cases {src : StationNo} (h : execBeaconReceived src s = .next t) :
    t = s ∨ (s.hearsFrame = true ∧ t = s.receive (.beacon src) none) := by
  cases h
  split
  · exact .inr ⟨‹_›, rfl⟩
  · exact .inl rfl

/-- R26: everything CORRUPT_RECEPTION can do. -/
theorem execCorruptReception_cases {slotFollows : Bool} (h : execCorruptReception slotFollows s = .next t) :
    t = s ∨ (s.hearsFrame = true ∧ t = s.receiveCorrupt slotFollows) := by
  cases h
  split
  · exact .inr ⟨‹_›, rfl⟩
  · exact .inl rfl

/-- R23: everything START_DELIMITER_SEEN can do. -/
theorem execStartDelimiterSeen_cases (h : execStartDelimiterSeen s = .next t) :
    t = s ∨ (s.receiverOn = true ∧ s.tif.tx = none
      ∧ t = { s with tif := { s.tif with incoming := true, trunk := .busy } }) := by
  cases h
  split
  · next hr =>
    obtain ⟨hon, htx⟩ := Bool.and_eq_true_iff.mp hr
    exact .inr ⟨hon, of_decide_eq_true htx, rfl⟩
  · exact .inl rfl

/-- R37: a slot of the round that begins is counted, or the station starts in it the frame it offers. -/
theorem State.beginSlot_cases (s : State) (slot : Fin 48) :
    (∃ tx, s.onTrunk = true ∧ s.offer slot = some tx ∧ s.beginSlot slot = s.startFrame tx)
      ∨ s.beginSlot slot = { s with tif := { s.tif with trunk := .idle (slot.val + 1) } } := by
  unfold State.beginSlot
  split
  · next tx htx =>
    split at htx
    · exact .inl ⟨tx, ‹_›, htx, rfl⟩
    · cases htx
  · exact .inr rfl

/-! ### Timers -/

/-- R50: everything PRESENCE_TIMEOUT can do. -/
theorem execPresenceTimeout_cases {st : StationNo} (h : execPresenceTimeout st s = .next t) :
    t = s ∨ (s.presence.table[st] = .present 0 ∧ s.receiverOn = true
      ∧ t = ((s.presenceLost st).ortStationLost st).targetStationLost st) := by
  cases h
  split
  · next hz =>
    split
    · exact .inr ⟨hz, ‹_›, rfl⟩
    · exact .inl rfl
  all_goals exact .inl rfl

/-- R44: everything BEACON_TIMER_EXPIRY can do. -/
theorem execBeaconTimerExpiry_cases (h : execBeaconTimerExpiry s = .next t) :
    t = s ∨ (s.onTrunk = true
      ∧ t = { s with presence := { s.presence with beaconTimer := .expired, beaconQueued := true } }) := by
  cases h
  split
  · split
    · exact .inr ⟨‹_›, rfl⟩
    · exact .inl rfl
  all_goals exact .inl rfl

/-- R97: everything HOLDOFF_EXPIRY can do. -/
theorem execHoldoffExpiry_cases {g : Tag} (h : execHoldoffExpiry g s = .next t) :
    t = s ∨ ((s.entry g).state = .hold 0 ∧ t = s.setEntry g { s.entry g with state := .ready }) := by
  cases h
  split
  · exact .inr ⟨‹_›, rfl⟩
  · exact .inl rfl

/-- R100: everything COMPLETION_TIMEOUT can do. -/
theorem execCompletionTimeout_cases {g : Tag} (h : execCompletionTimeout g s = .next t) :
    t = s ∨ ((s.entry g).state = .awaiting 0 ∧ t = s.enterDone g (s.entry g) .timeout) := by
  cases h
  split
  · exact .inr ⟨‹_›, rfl⟩
  · exact .inl rfl

/-- R112: everything QUARANTINE_EXPIRY can do. -/
theorem execQuarantineExpiry_cases {g : Tag} (h : execQuarantineExpiry g s = .next t) :
    t = s ∨ ((s.entry g).state = .stale 0 ∧ t = s.freeEntry g) := by
  cases h
  split
  · exact .inr ⟨‹_›, rfl⟩
  · exact .inl rfl

/-- R67: everything the expiry of a service entry's lifetime can do. -/
theorem State.expireService_cases (s : State) (i : Nat) :
    s.expireService i = s ∨ ∃ e, s.target.service[i]? = some e ∧ e.reservation = .live 0
      ∧ s.expireService i = { s with
          target :=
            { s.target with
              service := s.target.service.set i { e with reservation := .expired }
              nonPosted := s.target.nonPosted - 1 }
          events := s.events.responsesDropped 1 } := by
  unfold State.expireService
  split
  · exact .inl rfl
  · next e he =>
    split
    · exact .inr ⟨e, he, ‹_›, rfl⟩
    all_goals exact .inl rfl

/-- R67: everything the expiry of a response's lifetime can do. -/
theorem State.expireResponse_cases (s : State) (i : Nat) :
    s.expireResponse i = s ∨ ∃ r, s.target.responses[i]? = some r ∧ r.lifetime = 0
      ∧ s.expireResponse i = s.dropResponse i := by
  unfold State.expireResponse
  split
  · exact .inl rfl
  · next r hr =>
    split
    · exact .inr ⟨r, hr, ‹_›, rfl⟩
    · exact .inl rfl

/-- R67: everything LIFETIME_EXPIRY can do, by its place. -/
theorem execLifetimeExpiry_cases {place : ReservationPlace} (h : execLifetimeExpiry place s = .next t) :
    ∃ i, t = s.expireService i ∨ t = s.expireResponse i := by
  cases h
  cases place with
  | service i => exact ⟨i.val, .inl rfl⟩
  | response i => exact ⟨i.val, .inr rfl⟩

/-! ### The memory port and the notify service -/

/-- R133: everything WORD_ACCESS_COMPLETE can do. -/
theorem execWordAccessComplete_cases {other : Option (BitVec 16)} (h : execWordAccessComplete other s = .next t) :
    t = s ∨ ∃ op, s.port = some op ∧ 2 * op.word + 1 < localMemorySize ∧ t = s.completeAccess op other := by
  unfold execWordAccessComplete at h
  split at h
  · cases h
    exact .inl rfl
  · next op hop =>
    split at h
    · cases h
      exact .inr ⟨op, hop, ‹_›, rfl⟩
    · cases h

/-- R133: the access completed was the last, or the next begins. -/
theorem State.completeAccess_cases (s : State) (op : MemOp) (other : Option (BitVec 16)) :
    ∃ m op', m = op.access (otherSideWrite s.localMem op.word other)
      ∧ op' = op.advance (otherSideWrite s.localMem op.word other)
      ∧ ((op'.finished = true ∧ s.completeAccess op other = State.endOperation { s with localMem := m } op' false)
        ∨ (op'.finished = false ∧ s.completeAccess op other = State.beginAccess { s with localMem := m } op')) := by
  refine ⟨_, _, rfl, rfl, ?_⟩
  unfold State.completeAccess
  dsimp only
  split
  · exact .inl ⟨‹_›, rfl⟩
  · exact .inr ⟨Bool.eq_false_iff.mpr ‹_›, rfl⟩

/-- R64: everything NOTIFY_SERVICE can do. -/
theorem execNotifyService_cases (h : execNotifyService s = .next t) :
    t = s ∨ ∃ e rest offset, s.target.service = e :: rest ∧ e.dest = .notify offset ∧ t = s.serveNotify e offset := by
  cases h
  split
  · exact .inl rfl
  · next e rest hq =>
    split
    · exact .inr ⟨e, rest, _, hq, ‹_›, rfl⟩
    · exact .inl rfl

end Sys2Proof.Machine
end

section
/-! PROOFS. Chapters 4 and 7 (the Target Engine and the Notify Mailbox): the laws of the target side are kept by every
step (O53). -/

namespace Sys2Proof.Machine

/-! ### What the laws of the target side read -/

/-- R56, R59: the claim with ACCEPT that a mark is, with what the request reaches. -/
def claimAccepted : Mark → Option (Claim × Dest)
  | .claim c =>
    match c.decision with
    | .accept dest => some (c, dest)
    | .busy => none
    | .refuse => none
  | .none => none
  | .corrupt => none
  | .completion => none

theorem State.acceptPending_eq (s : State) :
    s.acceptPending = s.tif.exchange.bind fun e => claimAccepted e.mark := by
  unfold State.acceptPending claimAccepted
  cases s.tif.exchange with
  | none => rfl
  | some e =>
    rcases e with ⟨sender, mark, begun, number⟩
    cases mark <;> rfl

/-- A mark claims with ACCEPT when it is a claim whose decision is ACCEPT. -/
theorem claimAccepted_eq_some {m : Mark} {c : Claim} {dest : Dest} (h : claimAccepted m = some (c, dest)) :
    m = .claim c ∧ c.decision = .accept dest := by
  unfold claimAccepted at h
  split at h
  · split at h
    · next hd => cases h; exact ⟨rfl, hd⟩
    all_goals cases h
  all_goals cases h

/-- From `s` to `t` no claim with ACCEPT becomes pending. -/
def PendingKept (s t : State) : Prop := t.acceptPending = s.acceptPending ∨ t.acceptPending = none

theorem PendingKept.of_exchange {s t : State} (h : t.tif.exchange = s.tif.exchange) : PendingKept s t :=
  .inl (by rw [State.acceptPending_eq, State.acceptPending_eq, h])

theorem PendingKept.of_none {s t : State} (h : t.tif.exchange = none) : PendingKept s t :=
  .inr (by rw [State.acceptPending_eq, h]; rfl)

/-- With no claim pending, nothing more will be taken. -/
theorem State.pending_zero {s : State} (h : s.acceptPending = none) :
    s.responsePending = 0 ∧ s.servicePending = 0 ∧ s.notifyPending = 0 := by
  simp [State.responsePending, State.servicePending, State.notifyPending, h]

/-- What the claim pending will take, when it is read back. -/
theorem State.pending_some {s : State} {c : Claim} {dest : Dest} (h : s.acceptPending = some (c, dest)) :
    s.responsePending = (if c.frame.body.tag.isSome = true then 1 else 0) ∧ s.servicePending = 1
      ∧ s.notifyPending = (if dest.isNotify = true then 1 else 0) := by
  cases dest <;> simp [State.responsePending, State.servicePending, State.notifyPending, h, Dest.isNotify]

/-- With no claim more pending, no more will be taken. -/
theorem PendingKept.le {s t : State} (h : PendingKept s t) :
    t.responsePending ≤ s.responsePending ∧ t.servicePending ≤ s.servicePending
      ∧ t.notifyPending ≤ s.notifyPending := by
  obtain h | h := h
  · simp [State.responsePending, State.servicePending, State.notifyPending, h]
  · obtain ⟨h1, h2, h3⟩ := State.pending_zero h
    omega

/-- A target operation is in flight whose result is wanted (R71). -/
def State.serving (s : State) : Prop := ∃ op, s.port = some op ∧ op.requester = .target ∧ op.discard = false

theorem State.serving_of_port_eq {s t : State} (h : t.port = s.port) (hs : t.serving) : s.serving := by
  rwa [State.serving, ← h]

theorem State.not_serving_of_port_none {s : State} (h : s.port = none) : ¬ s.serving := by
  rintro ⟨op, hop, -⟩
  simp [h] at hop

/-- R60: the operation served is that of the head. -/
theorem TargetLaw.head_of_serving {s : State} (law : TargetLaw s) (h : s.serving) :
    ∃ e rest, s.target.service = e :: rest ∧ e.dest.isNotify = false := by
  obtain ⟨op, hop, hreq, hdis⟩ := h
  exact law.inFlight op hop hreq hdis

/-! ### The laws by what an operation changes of the target side -/

/-- An operation that leaves the Target Engine alone, adds nothing to the mailbox, and neither decides a claim nor
begins a target operation. -/
theorem TargetLaw.of_kept {s t : State} (law : TargetLaw s) (target : t.target = s.target)
    (records : t.mailbox.records.length ≤ s.mailbox.records.length) (reserved : t.mailbox.reserved = s.mailbox.reserved)
    (pending : PendingKept s t) (port : t.serving → s.serving) (trunk : t.onTrunk = false → s.onTrunk = false) :
    TargetLaw t := by
  obtain ⟨hresponse, hservice, hnotify⟩ := pending.le
  have hreservations := law.reservations
  have hplaces := law.places
  have hmailbox := law.mailbox
  exact
    { counted := by rw [target]; exact law.counted
      reservations := by rw [target]; omega
      places := by rw [target]; omega
      held := by rw [target, reserved]; exact law.held
      mailbox := by omega
      entries := by rw [target]; exact law.entries
      inFlight := fun op hop hreq hdis => by rw [target]; exact law.head_of_serving (port ⟨op, hop, hreq, hdis⟩)
      offTrunk := fun hoff => by rw [target]; exact law.offTrunk (trunk hoff) }

/-- An operation that leaves the Target Engine, the mailbox, the memory port and the slot under way alone. -/
theorem TargetLaw.of_eq {s t : State} (law : TargetLaw s) (target : t.target = s.target)
    (mailbox : t.mailbox = s.mailbox) (exchange : t.tif.exchange = s.tif.exchange) (port : t.port = s.port)
    (trunk : t.onTrunk = false → s.onTrunk = false) : TargetLaw t :=
  law.of_kept target (by rw [mailbox]) (by rw [mailbox]) (.of_exchange exchange) (State.serving_of_port_eq port) trunk

/-- R71: an operation that empties the Target Engine. -/
theorem TargetLaw.of_emptied {s t : State} (law : TargetLaw s)
    (target : t.target = { service := [], responses := [], nonPosted := 0 })
    (records : t.mailbox.records.length ≤ s.mailbox.records.length) (reserved : t.mailbox.reserved = 0)
    (pending : PendingKept s t) (port : ¬ t.serving) : TargetLaw t := by
  obtain ⟨hresponse, hservice, hnotify⟩ := pending.le
  have hreservations := law.reservations
  have hplaces := law.places
  have hmailbox := law.mailbox
  exact
    { counted := by simp [target]
      reservations := by simp only [target]; omega
      places := by simp only [target, List.length_nil]; omega
      held := by simp [target, reserved]
      mailbox := by omega
      entries := by simp [target]
      inFlight := fun op hop hreq hdis => absurd ⟨op, hop, hreq, hdis⟩ port
      offTrunk := fun _ => by simp [target] }

/-- An operation on the responses: those removed give their reservations back. -/
theorem TargetLaw.of_responses {s t : State} (law : TargetLaw s) (service : t.target.service = s.target.service)
    (removed : t.target.nonPosted + s.target.responses.length = s.target.nonPosted + t.target.responses.length)
    (fewer : t.target.responses.length ≤ s.target.responses.length) (mailbox : t.mailbox = s.mailbox)
    (pending : PendingKept s t) (port : t.serving → s.serving) (trunk : t.onTrunk = s.onTrunk) : TargetLaw t := by
  obtain ⟨hresponse, hservice, hnotify⟩ := pending.le
  have hcounted := law.counted
  have hreservations := law.reservations
  have hplaces := law.places
  have hmailbox := law.mailbox
  exact
    { counted := by rw [service]; omega
      reservations := by omega
      places := by rw [service]; omega
      held := by rw [service, mailbox]; exact law.held
      mailbox := by rw [mailbox]; omega
      entries := by rw [service]; exact law.entries
      inFlight := fun op hop hreq hdis => by rw [service]; exact law.head_of_serving (port ⟨op, hop, hreq, hdis⟩)
      offTrunk := fun hoff => by
        obtain ⟨h1, h2⟩ := law.offTrunk (trunk ▸ hoff)
        rw [h2, List.length_nil, Nat.le_zero, List.length_eq_zero_iff] at fewer
        exact ⟨service.trans h1, fewer⟩ }

/-! ### The slot under way -/

theorem PendingKept.trans {s t u : State} (h : PendingKept s t) (k : PendingKept t u) : PendingKept s u := by
  obtain k | k := k
  · exact h.imp k.trans k.trans
  · exact .inr k

/-- R30: dropping a mark that has not begun. -/
theorem PendingKept.of_unbegunDropped {s t : State}
    (h : t.tif.exchange = s.tif.exchange.map fun e => if e.begun then e else { e with mark := .none }) :
    PendingKept s t := by
  rw [PendingKept, State.acceptPending_eq, State.acceptPending_eq, h]
  cases s.tif.exchange with
  | none => exact .inl rfl
  | some e =>
    cases hb : e.begun
    · exact .inr (by simp [hb, claimAccepted])
    · exact .inl (by simp [hb])

/-- R23: following a slot no longer. -/
theorem PendingKept.of_filter {s t : State} {p : Exchange → Bool}
    (h : t.tif.exchange = s.tif.exchange.filter p) : PendingKept s t := by
  rw [PendingKept, State.acceptPending_eq, State.acceptPending_eq, h]
  cases s.tif.exchange with
  | none => exact .inl rfl
  | some e =>
    cases hp : p e
    · exact .inr (by simp [Option.filter, hp])
    · exact .inl (by simp [Option.filter, hp])

/-- The mark of the slot under way becomes one that claims nothing with ACCEPT. -/
theorem PendingKept.of_noClaim {s t : State} {e : Exchange} (h : t.tif.exchange = some e)
    (hm : claimAccepted e.mark = none) : PendingKept s t :=
  .inr (by rw [State.acceptPending_eq, h]; exact hm)

/-- R22: the slot under way once a frame has ended is the one before it, or the one that follows it. -/
theorem Tif.frameEnded_exchange (t : Tif) (slot : Option Exchange) :
    (t.frameEnded slot).exchange = t.exchange ∨ (t.frameEnded slot).exchange = slot := by
  unfold Tif.frameEnded
  split
  · exact .inr rfl
  · exact .inl rfl

/-- A frame ends, and the station claims nothing with ACCEPT in the slot that follows it. -/
theorem PendingKept.frameEnded {s t : State} {slot : Option Exchange} (h : t.tif = s.tif.frameEnded slot)
    (hm : ∀ e, slot = some e → claimAccepted e.mark = none) : PendingKept s t := by
  obtain he | he := s.tif.frameEnded_exchange slot
  · exact .of_exchange (by rw [h, he])
  · rw [← h] at he
    cases slot with
    | none => exact .of_none he
    | some e => exact .of_noClaim he (hm e rfl)

/-! ### A claim with ACCEPT: decided, and read back (R57, R59) -/

/-- R57: the request of this claim finds room: a service place, a reservation when it is non-posted, a notify place
when it is a notify write. -/
structure State.RoomFor (s : State) (c : Claim) (dest : Dest) : Prop where
  service : s.target.service.length < 8
  reservation : c.frame.body.tag.isSome = true → s.target.nonPosted < 8
  mailbox : dest.isNotify = true → s.mailbox.records.length + s.mailbox.reserved < 16

/-- R57: a permitted request that is not BUSY finds room. -/
theorem State.roomFor_of_not_full {s : State} {w : WindowIdx} {f : ReqFrame} {dest : Dest} {d : Decision}
    (h : s.targetFull f dest = false) : s.RoomFor ⟨w, f, d⟩ dest := by
  simp only [State.targetFull, Bool.or_eq_false_iff, Bool.and_eq_false_imp, decide_eq_false_iff_not,
    Nat.not_le] at h
  obtain ⟨⟨hservice, hreservation⟩, hmailbox⟩ := h
  refine ⟨hservice, hreservation, fun hn => ?_⟩
  cases dest with
  | memory a => cases hn
  | notify a => exact Nat.not_le.mp (of_decide_eq_false hmailbox)

/-- R52, R53, R127: the claim pending finds room, for its places are counted. -/
theorem TargetLaw.roomFor {s : State} (law : TargetLaw s) {c : Claim} {dest : Dest}
    (h : s.acceptPending = some (c, dest)) : s.RoomFor c dest := by
  obtain ⟨hresponse, hservice, hnotify⟩ := State.pending_some h
  have hreservations := law.reservations
  have hplaces := law.places
  have hmailbox := law.mailbox
  refine ⟨by omega, fun ht => ?_, fun hn => ?_⟩
  · rw [if_pos ht] at hresponse
    omega
  · rw [if_pos hn] at hnotify
    omega

/-- R56: the claim decided becomes pending, with room for its request. -/
theorem TargetLaw.of_decided {s t : State} (law : TargetLaw s) (target : t.target = s.target)
    (mailbox : t.mailbox = s.mailbox) (port : t.port = s.port) (trunk : t.onTrunk = s.onTrunk)
    (pending : PendingKept s t ∨ ∃ c dest, t.acceptPending = some (c, dest) ∧ s.RoomFor c dest) : TargetLaw t := by
  obtain hkept | ⟨c, dest, hpending, hroom⟩ := pending
  · exact law.of_kept target (by rw [mailbox]) (by rw [mailbox]) hkept (State.serving_of_port_eq port)
      fun hoff => trunk ▸ hoff
  · obtain ⟨hresponse, hservice, hnotify⟩ := State.pending_some hpending
    have hplace := hroom.service
    have hreservation := hroom.reservation
    have hnote := hroom.mailbox
    have hreservations := law.reservations
    have hmailbox := law.mailbox
    exact
      { counted := by rw [target]; exact law.counted
        reservations := by
          rw [target, hresponse]
          split
          · exact hreservation ‹_›
          · omega
        places := by rw [target, hservice]; omega
        held := by rw [target, mailbox]; exact law.held
        mailbox := by
          rw [mailbox, hnotify]
          split
          · exact hnote ‹_›
          · omega
        entries := by rw [target]; exact law.entries
        inFlight := fun op hop hreq hdis => by rw [target]; exact law.inFlight op (port ▸ hop) hreq hdis
        offTrunk := fun hoff => by rw [target]; exact law.offTrunk (trunk ▸ hoff) }

/-- R59: the request whose claim was read back joins the service queue, with the places it finds. -/
theorem TargetLaw.acceptRequest {s : State} (law : TargetLaw s) (hnone : s.acceptPending = none) {c : Claim}
    {dest : Dest} (room : s.RoomFor c dest) (hon : s.onTrunk = true) : TargetLaw (s.acceptRequest c dest) := by
  have htarget := congrArg State.target (s.acceptRequest_eq c dest)
  have hmail := congrArg State.mailbox (s.acceptRequest_eq c dest)
  obtain ⟨hresponse, hservice, hnotify⟩ := State.pending_zero (s := s.acceptRequest c dest) hnone
  have hplace := room.service
  have hreservation := room.reservation
  have hnote := room.mailbox
  have hcounted := law.counted
  have hheld := law.held
  have hreservations := law.reservations
  have hmailbox := law.mailbox
  have hin := law.inFlight
  refine ⟨?counted, ?reservations, ?places, ?held, ?mailbox, ?entries, fun op hop hreq hdis => ?inFlight,
    fun hoff => ?offTrunk⟩
  case offTrunk => exact absurd (hon.symm.trans hoff) (by decide)
  all_goals simp only [hresponse, hservice, hnotify, htarget, hmail]
  case counted =>
    cases ht : c.frame.body.tag.isSome <;> simp [Reservation.isLive, hcounted]
    omega
  case reservations =>
    split
    · have := hreservation ‹_›; omega
    · omega
  case places => simp only [List.length_append, List.length_cons, List.length_nil]; omega
  case held => cases hn : dest.isNotify <;> simp [hheld]
  case mailbox =>
    split
    · have := hnote ‹_›; omega
    · omega
  case entries =>
    intro e he
    obtain he | he := List.mem_append.mp he
    · exact law.entries e he
    · rw [List.mem_singleton.mp he]
      cases ht : c.frame.body.tag.isSome <;> simp
  case inFlight =>
    obtain ⟨e, rest, hhead, hm⟩ := hin op hop hreq hdis
    exact ⟨e, _, by rw [hhead]; rfl, hm⟩

/-! ### The service of the head (R60 to R65) -/

/-- R65: what a response leaves alone. -/
theorem State.respond_frame (s : State) (e : ServiceEntry) (status : CplStatus) (swapped : Bool) (data : List Byte) :
    (s.respond e status swapped data).target.service = s.target.service
      ∧ (s.respond e status swapped data).target.nonPosted = s.target.nonPosted
      ∧ (s.respond e status swapped data).mailbox = s.mailbox ∧ (s.respond e status swapped data).tif = s.tif
      ∧ (s.respond e status swapped data).ctl = s.ctl := by
  obtain ⟨t, k, -, -, h⟩ | ⟨-, h⟩ := s.respond_cases e status swapped data <;> rw [h] <;> exact ⟨rfl, rfl, rfl, rfl, rfl⟩

/-- R65: a request with a live reservation gets one response, and any other none. -/
theorem State.respond_length (s : State) {e : ServiceEntry}
    (h : e.reservation ≠ .none ↔ e.request.body.tag.isSome = true) (status : CplStatus) (swapped : Bool)
    (data : List Byte) :
    (s.respond e status swapped data).target.responses.length
      = s.target.responses.length + if e.reservation.isLive = true then 1 else 0 := by
  obtain ⟨t, k, -, hk, heq⟩ | ⟨hno, heq⟩ := s.respond_cases e status swapped data
  · simp [heq, hk, Reservation.isLive]
  · rw [heq, if_neg]
    · rfl
    · cases hr : e.reservation with
      | none | expired => simp [Reservation.isLive]
      | live k =>
        obtain hno | hno := hno
        · simp [hno, hr] at h
        · exact absurd hr (hno k)

/-- R60, R65: the head of the service queue is served: it leaves the queue, its reservation passes to its response, and
a notify entry's place to its record. -/
theorem TargetLaw.respond_popService {s u : State} (law : TargetLaw s) {e : ServiceEntry} {rest : List ServiceEntry}
    (head : s.target.service = e :: rest) (target : u.target = s.target)
    (records : u.mailbox.records.length = s.mailbox.records.length + if e.notifyHold = true then 1 else 0)
    (reserved : u.mailbox.reserved = s.mailbox.reserved - if e.notifyHold = true then 1 else 0)
    (exchange : u.tif.exchange = s.tif.exchange) (idle : ¬ u.serving) (trunk : u.onTrunk = s.onTrunk)
    (status : CplStatus) (swapped : Bool) (data : List Byte) :
    TargetLaw (u.respond e status swapped data).popService := by
  have hentry := law.entries e (by simp [head])
  obtain ⟨hservice, hnonPosted, hmail, htif, hctl⟩ := u.respond_frame e status swapped data
  have hlength := u.respond_length hentry.1 status swapped data
  have hpending := (PendingKept.of_exchange (s := s) (t := (u.respond e status swapped data).popService)
    ((congrArg Tif.exchange htif).trans exchange)).le
  have hcounted := law.counted
  have hheld := law.held
  have hreservations := law.reservations
  have hplaces := law.places
  have hmailbox := law.mailbox
  rw [head, List.countP_cons] at hcounted hheld
  rw [head, List.length_cons] at hplaces
  have hon : s.onTrunk = true := by
    by_contra hoff
    simp [law.offTrunk (Bool.eq_false_iff.mpr hoff)] at head
  refine ⟨?counted, ?reservations, ?places, ?held, ?mailbox, ?entries, ?inFlight, ?offTrunk⟩
  all_goals simp only [State.popService_target, State.popService_mailbox, hservice, hnonPosted, hmail, target, head,
    List.tail_cons]
  case counted => rw [hlength, target]; omega
  case reservations => omega
  case places => omega
  case held => omega
  case mailbox => split at records <;> split at hheld <;> simp_all <;> omega
  case entries => exact fun x hx => law.entries x (by simp [head, hx])
  case inFlight =>
    intro op hop hreq hdis
    rw [State.popService_port, State.respond_port] at hop
    exact absurd ⟨op, hop, hreq, hdis⟩ idle
  case offTrunk =>
    intro hoff
    rw [State.onTrunk, State.popService_ctl, hctl] at hoff
    exact absurd (hon.symm.trans (trunk.symm.trans hoff)) (by decide)

namespace TargetLaw

/-! ### Operations on the target side -/

/-- A host command keeps to its frame. -/
theorem hostFrame {s t : State} (law : TargetLaw s) (h : HostFrame s t) : TargetLaw t :=
  law.of_eq h.target h.mailbox (congrArg Tif.exchange h.tif) h.port fun hoff => h.onTrunk ▸ hoff

/-- R66, R67: a response leaves the queue, and its reservation is released. -/
theorem of_erased {s t : State} (law : TargetLaw s) {i : Nat} (hi : i < s.target.responses.length)
    (target : t.target = (s.removeResponse i).target) (mailbox : t.mailbox = s.mailbox)
    (exchange : t.tif.exchange = s.tif.exchange) (port : t.port = s.port) (trunk : t.onTrunk = s.onTrunk) :
    TargetLaw t := by
  have hcounted := law.counted
  rw [State.removeResponse_target] at target
  refine law.of_responses (by rw [target]) ?_ ?_ mailbox (.of_exchange exchange) (State.serving_of_port_eq port) trunk
  · simp only [target, List.length_eraseIdx, if_pos hi]
    omega
  · simp only [target, List.length_eraseIdx, if_pos hi]
    omega

/-- R66, R68: the outcome of a completion's slot. -/
theorem completionOutcome {s : State} (law : TargetLaw s) (out : CompletionOutcome) :
    TargetLaw (s.completionOutcome out) := by
  unfold State.completionOutcome
  split
  · exact law
  · next r rest hq =>
    have hi : 0 < s.target.responses.length := by simp [hq]
    split
    · split
      · exact law.of_erased hi rfl rfl rfl rfl rfl
      · exact law.of_erased hi rfl rfl rfl rfl rfl
      · split
        · exact law.of_responses rfl (by simp [hq]) (by simp [hq]) rfl (.of_exchange rfl) id rfl
        · exact law.of_erased hi rfl rfl rfl rfl rfl
    · exact law

/-- R94: the outcome of a request's slot is no matter of the Target Engine. -/
theorem requestOutcome {s : State} (law : TargetLaw s) (g : Tag) (out : SlotOutcome) :
    TargetLaw (s.requestOutcome g out) := by
  unfold State.requestOutcome
  dsimp only
  repeat' split
  all_goals exact law.of_eq rfl rfl rfl rfl id

theorem handOutcome {s : State} (law : TargetLaw s) (sender : Option Origin) (out : SlotOutcome) :
    TargetLaw (s.handOutcome sender out) := by
  unfold State.handOutcome
  split
  · exact law
  · exact law.requestOutcome _ out
  · exact law.completionOutcome _
  · exact law

/-- R31, R59: the claim is read back, the slot being over. -/
theorem readBack {s : State} (law : TargetLaw s) {e : Exchange} (he : s.tif.exchange = some e) (out : SlotOutcome) :
    TargetLaw ((s.withExchange none).readBack e.mark out) := by
  have ended : TargetLaw (s.withExchange none) :=
    law.of_kept rfl le_rfl rfl (.of_none rfl) id id
  unfold State.readBack
  split
  · next c hm =>
    split
    · exact ended.of_eq rfl rfl rfl rfl id
    · next n dest hd =>
      have hpending : s.acceptPending = some (c, dest) := by
        rw [State.acceptPending_eq, he]
        simp [claimAccepted, hm, hd]
      split
      · next hown =>
        have room := law.roomFor hpending
        exact ended.acceptRequest rfl ⟨room.service, room.reservation, room.mailbox⟩ hown.2
      · exact ended
    · exact ended
  all_goals exact ended

/-- R71, R182: entry to DETACHED empties the Target Engine. -/
theorem detach {s : State} (law : TargetLaw s) (kind : FaultKind) : TargetLaw (s.detach kind) := by
  refine law.of_emptied rfl le_rfl rfl (.of_unbegunDropped rfl) ?_
  rintro ⟨op, hop, hreq, hdis⟩
  obtain ⟨op', -, rfl⟩ := Option.map_eq_some_iff.mp (hop : s.port.map MemOp.discardTarget = some op)
  unfold MemOp.discardTarget at hreq hdis
  split at hdis
  · cases hdis
  · next hno =>
    rw [if_neg hno] at hreq
    exact hno hreq

/-- R71, R181: so does ABORT. -/
theorem abortStation {s : State} (law : TargetLaw s) : TargetLaw s.abortStation := by
  have hdetached := law.detach .duplicateStation
  exact hdetached.of_kept rfl le_rfl rfl (.of_filter rfl) id fun _ => rfl

/-- A station off the trunk leaves it for CONFIG. -/
theorem leaveTrunk {s : State} (law : TargetLaw s) (empty : s.target.service = [] ∧ s.target.responses = []) :
    TargetLaw s.leaveTrunk := by
  have hkept := (PendingKept.of_filter (s := s) (t := s.leaveTrunk) rfl).le
  obtain ⟨hservice, hresponses⟩ := empty
  have hreservations := law.reservations
  have hplaces := law.places
  have hmailbox := law.mailbox
  refine ⟨law.counted, ?_, ?_, law.held, ?_, law.entries, law.inFlight, fun _ => ⟨hservice, hresponses⟩⟩
  · rw [State.leaveTrunk_target]; omega
  · rw [State.leaveTrunk_target]; omega
  · rw [State.leaveTrunk_mailbox]; omega

/-- R46: the Presence Monitor and the Access Unit hear a frame. -/
theorem heard {s : State} (law : TargetLaw s) (src : StationNo) : TargetLaw (s.presenceHeard src) := by
  unfold State.presenceHeard
  split <;> exact law.of_eq rfl rfl rfl rfl id

/-- R22: a frame ends, and the station claims nothing with ACCEPT in its slot. -/
theorem afterFrame {s : State} (law : TargetLaw s) (f : Frame) (sender : Option Origin) {mark : Mark}
    (hm : claimAccepted mark = none) : TargetLaw (s.afterFrame f sender mark) := by
  refine law.of_kept rfl le_rfl rfl (.frameEnded rfl fun e he => ?_) id id
  cases f <;> cases he <;> exact hm

/-- R56, R57: a request frame ends, and the claim is decided. -/
theorem decided {s : State} (law : TargetLaw s) (r : ReqFrame) (sender : Option Origin) :
    TargetLaw ((s.decideClaim r).1.afterFrame (.request r) sender (s.decideClaim r).2) := by
  unfold State.decideClaim
  split
  · exact law.afterFrame _ _ rfl
  · next w reason _ =>
    exact TargetLaw.afterFrame (s := s.recordRefusal w reason r.source) (law.of_eq rfl rfl rfl rfl id) _ _ rfl
  · next w dest _ =>
    split
    · exact TargetLaw.afterFrame (s := s.onEvents EventUnit.countBusy) (law.of_eq rfl rfl rfl rfl id) _ _ rfl
    · next hroom =>
      refine law.of_decided rfl rfl rfl rfl ?_
      obtain he | he := s.tif.frameEnded_exchange (some ⟨sender, .claim ⟨w, r, .accept dest⟩, false, s.ctl.number⟩)
      · exact .inl (.of_exchange he)
      · refine .inr ⟨⟨w, r, .accept dest⟩, dest, ?_, State.roomFor_of_not_full (Bool.eq_false_iff.mpr hroom)⟩
        exact (State.acceptPending_eq _).trans (congrArg (Option.bind · _) he)

theorem ortCompletion {s : State} (law : TargetLaw s) (c : CplFrame) : TargetLaw (s.ortCompletion c) := by
  unfold State.ortCompletion State.matchedCompletion
  dsimp only
  repeat' split
  all_goals exact law.of_eq rfl rfl rfl rfl id

theorem handByKind {s : State} (law : TargetLaw s) (f : Frame) (sender : Option Origin) :
    TargetLaw (s.handByKind f sender) := by
  unfold State.handByKind
  split
  · exact law.afterFrame _ _ rfl
  · split
    · exact law.decided _ sender
    · exact law.afterFrame _ _ rfl
  · split
    · refine (law.ortCompletion _).afterFrame _ _ ?_
      split <;> rfl
    · exact law.afterFrame _ _ rfl

/-- R35: a duplicate. -/
theorem duplicate {s : State} (law : TargetLaw s) (f : Frame) : TargetLaw (s.duplicate f) := by
  have hended := law.afterFrame f none (mark := .none) rfl
  unfold State.duplicate
  split
  · next hj =>
    have hoff : s.onTrunk = false := by simp [State.onTrunk, hj]
    exact TargetLaw.leaveTrunk (s := (s.afterFrame f none .none).onEvents _) (hended.of_eq rfl rfl rfl rfl id)
      (law.offTrunk hoff)
  · exact hended.detach _

/-- R25: a clean reception. -/
theorem receive {s : State} (law : TargetLaw s) (f : Frame) (sender : Option Origin) :
    TargetLaw (s.receive f sender) := by
  have hpresence := law.heard f.source
  have haccess : TargetLaw ((s.presenceHeard f.source).accessHeard f.source) := hpresence.of_eq rfl rfl rfl rfl id
  unfold State.receive
  dsimp only
  split
  · exact hpresence.afterFrame _ _ rfl
  · split
    · exact haccess.duplicate f
    · exact haccess.handByKind f sender

theorem loseSync {s : State} (law : TargetLaw s) : TargetLaw s.loseSync := law.of_eq rfl rfl rfl rfl id

/-- R26: a corrupt reception. -/
theorem receiveCorrupt {s : State} (law : TargetLaw s) (slotFollows : Bool) :
    TargetLaw (s.receiveCorrupt slotFollows) := by
  unfold State.receiveCorrupt
  dsimp only
  have hmark : ∀ e, (if slotFollows then
        some (⟨none, if s.onTrunk then .corrupt else .none, false, s.ctl.number⟩ : Exchange) else none) = some e →
      claimAccepted e.mark = none := by
    intro e he
    split at he
    · cases he
      dsimp only
      split <;> rfl
    · cases he
  split
  · exact law.of_kept rfl le_rfl rfl (.frameEnded rfl hmark) id id
  · exact law.of_kept rfl le_rfl rfl (.frameEnded rfl hmark) id id

/-- R60 to R65: a target operation ends, the entry at the head being for a MEMORY window. -/
theorem finishService {s : State} (law : TargetLaw s) (idle : ¬ s.serving)
    (head : ∀ e rest, s.target.service = e :: rest → e.dest.isNotify = false) (op : MemOp) (fault : Bool) :
    TargetLaw (s.finishService op fault) := by
  unfold State.finishService
  split
  · exact law
  · next e rest hq =>
    have hhold : e.notifyHold = false := by
      rw [(law.entries e (by simp [hq])).2, head e rest hq]
    have served : ∀ (f : EventUnit → EventUnit) status swapped data,
        TargetLaw ((s.onEvents f).respond e status swapped data).popService := fun f status swapped data =>
      law.respond_popService (u := s.onEvents f) hq rfl (by simp [hhold]) (by simp [hhold]) rfl idle rfl status swapped data
    split
    · next data hbody =>
      have hsame : ∀ u : State, u = u.respond e .ok false [] := fun u => by
        simp [State.respond, hbody, ReqBody.tag]
      rw [hsame (if fault = true then _ else _)]
      split
      · exact served _ _ _ _
      · exact served id _ _ _
    · exact served id _ _ _
    · split <;> exact served id _ _ _
    · split <;> exact served id _ _ _

/-- R85, R108: the end of a fetch or a store is no matter of the Target Engine. -/
theorem finishFetch {s : State} (law : TargetLaw s) (g : Tag) (op : MemOp) (fault : Bool) :
    TargetLaw (s.finishFetch g op fault) := by
  unfold State.finishFetch
  dsimp only
  repeat' split
  all_goals exact law.of_eq rfl rfl rfl rfl id

theorem finishStore {s : State} (law : TargetLaw s) (g : Tag) (fault : Bool) : TargetLaw (s.finishStore g fault) := by
  unfold State.finishStore
  dsimp only
  repeat' split
  all_goals exact law.of_eq rfl rfl rfl rfl id

/-- R131: an operation ends. -/
theorem endOperation {s : State} (law : TargetLaw s) {op : MemOp}
    (wanted : op.requester = .target → op.discard = false → s.serving) (fault : Bool) :
    TargetLaw (s.endOperation op fault) := by
  have ended : ∀ ev, TargetLaw { s with port := none, events := ev } := fun ev =>
    law.of_kept rfl le_rfl rfl (.of_exchange rfl) (fun h => absurd h (State.not_serving_of_port_none rfl)) id
  unfold State.endOperation
  dsimp only
  split
  · next hreq =>
    split
    · exact ended _
    · next hdis =>
      obtain ⟨e, rest, hq, hm⟩ := law.head_of_serving (wanted hreq (Bool.eq_false_iff.mpr hdis))
      refine (ended _).finishService (State.not_serving_of_port_none rfl) (fun e' rest' hq' => ?_) op fault
      obtain ⟨rfl, -⟩ := List.cons.inj (hq.symm.trans hq')
      exact hm
  · exact (ended _).finishFetch _ op fault
  · exact (ended _).finishStore _ fault

/-- R133: a word access completes. -/
theorem completeAccess {s : State} (law : TargetLaw s) {op : MemOp} (hop : s.port = some op)
    (other : Option (BitVec 16)) : TargetLaw (s.completeAccess op other) := by
  have accessed : ∀ m, TargetLaw { s with localMem := m } := fun _ => law.of_eq rfl rfl rfl rfl id
  unfold State.completeAccess
  dsimp only
  split
  · refine (accessed (op.access (otherSideWrite s.localMem op.word other))).endOperation ?_ false
    exact fun hreq hdis => ⟨op, hop, hreq, hdis⟩
  · refine law.of_kept rfl le_rfl rfl (.of_exchange rfl) ?_ id
    rintro ⟨op', hop', hreq, hdis⟩
    cases hop'
    exact ⟨op, hop, hreq, hdis⟩

/-- R137: a grant. -/
theorem memoryGrant {s : State} (law : TargetLaw s) {op : MemOp} (hchoice : s.arbiterChoice = some op) :
    TargetLaw (s.beginAccess op) := by
  have hkept := (PendingKept.of_exchange (s := s) (t := s.beginAccess op) rfl).le
  have hreservations := law.reservations
  have hplaces := law.places
  have hmailbox := law.mailbox
  refine ⟨law.counted, ?_, ?_, law.held, ?_, law.entries, fun op' hop' hreq hdis => ?_, law.offTrunk⟩
  · rw [State.beginAccess_target]; omega
  · rw [State.beginAccess_target]; omega
  · rw [State.beginAccess_mailbox]; omega
  · rw [State.beginAccess_port, Option.some.injEq] at hop'
    subst hop'
    unfold State.arbiterChoice at hchoice
    simp only [Option.orElse_eq_orElse, Option.orElse_eq_or, Option.or_eq_some_iff] at hchoice
    obtain hchoice | ⟨-, hchoice | ⟨-, hchoice⟩⟩ := hchoice
    · unfold State.targetRequest at hchoice
      split at hchoice
      · cases hchoice
      · next e rest hq =>
        split at hchoice
        · cases hchoice
        · next a hd => exact ⟨e, rest, hq, by simp [hd, Dest.isNotify]⟩
    · obtain ⟨g, -, rfl⟩ := Option.map_eq_some_iff.mp hchoice
      cases hreq
    · obtain ⟨g, -, rfl⟩ := Option.map_eq_some_iff.mp hchoice
      cases hreq

/-- R64: a notify entry is served. -/
theorem serveNotify {s : State} (law : TargetLaw s) {e : ServiceEntry} {rest : List ServiceEntry} {offset : Nat}
    (hq : s.target.service = e :: rest) (hd : e.dest = .notify offset) : TargetLaw (s.serveNotify e offset) := by
  have hhold : e.notifyHold = true := by rw [(law.entries e (by simp [hq])).2, hd]; rfl
  have idle : ¬ s.serving := fun h => by
    obtain ⟨e', rest', hq', hm⟩ := law.head_of_serving h
    obtain ⟨rfl, -⟩ := List.cons.inj (hq.symm.trans hq')
    simp [hd, Dest.isNotify] at hm
  have served : ∀ (u : State), u = { s with mailbox := u.mailbox, events := u.events } →
      u.mailbox.records.length = s.mailbox.records.length + 1 → u.mailbox.reserved = s.mailbox.reserved - 1 →
      TargetLaw (u.respond e .ok false []).popService := fun u hu hrecords hreserved => by
    rw [hu]
    exact law.respond_popService (u := { s with mailbox := u.mailbox, events := u.events }) hq rfl
      (by simpa [hhold] using hrecords) (by simpa [hhold] using hreserved) rfl idle rfl _ _ _
  exact served _ rfl (by simp) (by simp [hhold])

/-- An operation that leaves every entry in its place in the service queue, with what it reaches and its notify hold,
and every response in the response queue. -/
theorem of_sameQueue {s t : State} (law : TargetLaw s)
    (places : t.target.service.map (fun e => (e.dest, e.notifyHold))
      = s.target.service.map (fun e => (e.dest, e.notifyHold)))
    (responses : t.target.responses.length = s.target.responses.length)
    (counted : t.target.nonPosted =
      t.target.service.countP (fun e => e.reservation.isLive) + t.target.responses.length)
    (fewer : t.target.nonPosted ≤ s.target.nonPosted)
    (entries : ∀ e ∈ t.target.service,
      (e.reservation ≠ .none ↔ e.request.body.tag.isSome = true) ∧ e.notifyHold = e.dest.isNotify)
    (mailbox : t.mailbox = s.mailbox) (exchange : t.tif.exchange = s.tif.exchange) (port : t.port = s.port)
    (trunk : t.onTrunk = s.onTrunk) : TargetLaw t := by
  obtain ⟨hresponse, hservice, hnotify⟩ := (PendingKept.of_exchange exchange).le
  have hlength : t.target.service.length = s.target.service.length := by simpa using congrArg List.length places
  have hholds : t.target.service.countP (fun e => e.notifyHold) = s.target.service.countP (fun e => e.notifyHold) := by
    simpa [List.countP_map, Function.comp_def] using congrArg (List.countP Prod.snd) places
  have hreservations := law.reservations
  have hplaces := law.places
  have hmailbox := law.mailbox
  refine ⟨counted, by omega, by omega, by rw [mailbox, hholds]; exact law.held, by rw [mailbox]; omega, entries,
    fun op hop hreq hdis => ?_, fun hoff => ?_⟩
  · obtain ⟨e, rest, hq, hm⟩ := law.inFlight op (port ▸ hop) hreq hdis
    rw [hq, List.map_cons, List.map_eq_cons_iff] at places
    obtain ⟨e', rest', hq', he', -⟩ := places
    exact ⟨e', rest', hq', (congrArg (fun p : Dest × Bool => p.1.isNotify) he').trans hm⟩
  · obtain ⟨h1, h2⟩ := law.offTrunk (trunk ▸ hoff)
    rw [h1, List.length_nil] at hlength
    rw [h2, List.length_nil] at responses
    exact ⟨List.length_eq_zero_iff.mp hlength, List.length_eq_zero_iff.mp responses⟩

/-- R67: the reservation of a service entry expires. -/
theorem expireService {s : State} (law : TargetLaw s) (i : Nat) : TargetLaw (s.expireService i) := by
  unfold State.expireService
  split
  · exact law
  · next e he =>
    split
    · next hlive =>
      obtain ⟨hi, rfl⟩ := List.getElem?_eq_some_iff.mp he
      have hcounted := law.counted
      have hpos : 0 < s.target.service.countP (fun e => e.reservation.isLive) :=
        List.countP_pos_iff.mpr ⟨_, List.getElem_mem hi, by simp [hlive, Reservation.isLive]⟩
      refine law.of_sameQueue ?_ rfl ?_ (Nat.sub_le _ _) (fun x hx => ?_) rfl rfl rfl rfl
      · dsimp only
        rw [List.map_set]
        refine (congrArg _ ?_).trans (List.set_getElem_self (i := i) (by simpa using hi))
        simp
      · have hwas : s.target.service[i].reservation.isLive = true := by rw [hlive]; rfl
        have hexpired : Reservation.expired.isLive = false := rfl
        simp only [List.countP_set hi, hwas, hexpired, if_true, Bool.false_eq_true, if_false]
        omega
      · obtain hx | rfl := List.mem_or_eq_of_mem_set hx
        · exact law.entries x hx
        · have hentry := law.entries _ (List.getElem_mem hi)
          simpa [hlive] using hentry
    all_goals exact law

/-- R69: the notice that a station is lost. -/
theorem targetStationLost {s : State} (law : TargetLaw s) (st : StationNo) : TargetLaw (s.targetStationLost st) := by
  have hcounted := law.counted
  have hle := List.length_filter_le (fun r : ResponseEntry => decide (r.destination ≠ st)) s.target.responses
  unfold State.targetStationLost
  refine law.of_responses rfl ?_ hle rfl (.of_exchange rfl) id rfl
  dsimp only
  omega

/-- R53: a tick counts lifetimes down, and ends none. -/
theorem tick {s : State} (law : TargetLaw s) : TargetLaw s.tick := by
  unfold State.tick
  split
  · exact law
  · have hlive : ∀ r : Reservation, r.tick.isLive = r.isLive := fun r => by cases r <;> rfl
    have hnone : ∀ r : Reservation, r.tick = .none ↔ r = .none := fun r => by cases r <;> simp [Reservation.tick]
    refine law.of_sameQueue ?_ ?_ ?_ le_rfl (fun e he => ?_) rfl rfl rfl rfl
    · simp [Function.comp_def]
    · simp
    · simpa [List.countP_map, Function.comp_def, hlive] using law.counted
    · obtain ⟨e', he', rfl⟩ := List.mem_map.mp he
      simpa [hnone] using law.entries e' he'

end TargetLaw

namespace TargetLaw

/-! ### The rows -/

theorem hostStep {s t : State} (law : TargetLaw s) (h : HostStep s t) : TargetLaw t := by
  cases h with
  | frame h => exact law.hostFrame h
  | joined station =>
    have hoff : s.onTrunk = false := by simp [State.onTrunk, station]
    exact law.of_kept rfl le_rfl rfl (.of_none rfl) id fun _ => hoff
  | left station => exact law.of_eq rfl rfl rfl rfl nofun
  | aborted _ count => exact law.abortStation.of_eq rfl rfl rfl rfl id

/-- R170: every block of the target side at its pin-reset values. -/
theorem resetBlocks {s t : State} (law : TargetLaw s) (target : t.target = State.reset.target)
    (mailbox : t.mailbox = State.reset.mailbox) (tif : t.tif = State.reset.tif) (port : t.port = none) :
    TargetLaw t :=
  law.of_emptied target (by simp [mailbox, State.reset]) (by rw [mailbox]; rfl)
    (.of_none (by rw [tif]; rfl)) (State.not_serving_of_port_none port)

theorem execHostFrameEnd {s t : State} (law : TargetLaw s) (h : Machine.execHostFrameEnd s = .next t) :
    TargetLaw t := by
  obtain rfl | rfl | rfl | rfl | rfl | rfl := execHostFrameEnd_cases h
  · exact law
  · exact law.of_eq rfl rfl rfl rfl id
  · exact law.of_eq rfl rfl rfl rfl id
  · exact law.of_eq rfl rfl rfl rfl id
  · exact law.of_kept rfl (by simp) rfl (.of_exchange rfl) id id
  · exact law.resetBlocks rfl rfl rfl rfl

/-- R175: the end of loading leaves the target side alone, off the trunk. -/
theorem endOfLoading {s : State} (law : TargetLaw s) (hs : s.ctl.station = .loading) (eeprom : Option (List Byte))
    (straps : StationNo) : TargetLaw (s.endOfLoading eeprom straps) := by
  have hoff : s.onTrunk = false := by simp [State.onTrunk, hs]
  obtain ⟨f, -, h⟩ | ⟨-, h⟩ := s.endOfLoading_cases eeprom straps <;> rw [h]
  · exact law.of_eq rfl rfl rfl rfl fun _ => hoff
  · exact law.of_kept rfl le_rfl rfl (.of_none rfl) id fun _ => hoff

/-- R22: an own frame has been sent, and the Trunk Interface is busy with nothing. -/
theorem execOwnFrameSent {s t : State} (law : TargetLaw s) (h : Machine.execOwnFrameSent s = .next t) :
    TargetLaw t := by
  have silent : TargetLaw { s with tif := Tif.busyWith none } := law.of_kept rfl le_rfl rfl (.of_none rfl) id id
  have sent : TargetLaw ({ s with tif := Tif.busyWith none } : State).ownTransmission :=
    silent.of_eq rfl rfl rfl rfl id
  obtain rfl | ⟨tx, -, ⟨-, rfl⟩ | ⟨-, rfl⟩ | ⟨-, -, rfl⟩⟩ := execOwnFrameSent_cases h
  · exact law
  · exact sent.receive _ _
  · exact silent.receive _ _
  · exact silent.afterFrame _ _ rfl

/-- R42: a collision at the Access Unit. -/
theorem accessCollision {s : State} (law : TargetLaw s) : TargetLaw s.accessCollision := by
  have collided : ∀ n, TargetLaw (s.collided n) := fun _ => law.of_eq rfl rfl rfl rfl id
  by_cases h : s.access.collisions < 3
  · rw [State.accessCollision_counted h]
    exact collided _
  · rw [State.accessCollision_limit (Nat.not_lt.mp h)]
    exact (collided _).detach _

/-- R24: an own frame is abandoned. -/
theorem execCollision {s t : State} (law : TargetLaw s) (h : Machine.execCollision s = .next t) : TargetLaw t := by
  have abandoned : TargetLaw s.abandoned :=
    law.of_responses rfl (by simp [State.abandoned]) (by simp [State.abandoned]) rfl (.of_none rfl) id rfl
  obtain rfl | ⟨-, -, rfl⟩ | ⟨-, -, rfl⟩ := execCollision_cases h
  · exact law
  · exact abandoned.accessCollision
  · exact abandoned

/-- R29 to R34: a slot ends. -/
theorem execSlotEnd {s t : State} {cells : SlotCells} (law : TargetLaw s) (h : Machine.execSlotEnd cells s = .next t) :
    TargetLaw t := by
  obtain rfl | ⟨e, u, he, -, rfl, rfl⟩ := execSlotEnd_cases h
  · exact law
  · have hread := (law.readBack he cells.resolve).handOutcome e.sender cells.resolve
    rw [State.readBack_withExchange, State.handOutcome_withExchange] at hread
    refine hread.of_kept rfl le_rfl rfl ?_ id id
    dsimp only [Tif.slotEnded]
    split
    · exact .of_noClaim rfl rfl
    · exact .of_none rfl

/-- R30: the marks decided are driven, or not. -/
theorem execSlotBegin {s t : State} (law : TargetLaw s) (h : Machine.execSlotBegin s = .next t) : TargetLaw t := by
  obtain rfl | ⟨e, he, -, rfl⟩ := execSlotBegin_cases h
  · exact law
  · refine law.of_kept rfl le_rfl rfl ?_ id id
    split
    · refine .inl ?_
      rw [State.acceptPending_eq, State.acceptPending_eq, he]
      rfl
    · exact .of_noClaim rfl rfl

/-- R39: a slot of the round begins. -/
theorem execContentionSlot {s t : State} {slot : Fin 48} (law : TargetLaw s)
    (h : Machine.execContentionSlot slot s = .next t) : TargetLaw t := by
  obtain rfl | ⟨-, -, rfl⟩ := execContentionSlot_cases slot s t h
  · exact law
  · obtain ⟨tx, -, -, h⟩ | h := s.beginSlot_cases slot <;> rw [h]
    · have hlength : (markHeadOnTrunk s.target.responses).length = s.target.responses.length := by
        cases s.target.responses <;> rfl
      refine law.of_responses ?_ ?_ ?_ rfl (.of_none rfl) id rfl
      all_goals
        unfold State.startFrame
        cases tx.origin <;> simp [hlength]
    · exact law.of_eq rfl rfl rfl rfl id

/-- R50: a station is lost. -/
theorem execPresenceTimeout {s t : State} {st : StationNo} (law : TargetLaw s)
    (h : Machine.execPresenceTimeout st s = .next t) : TargetLaw t := by
  obtain rfl | ⟨-, -, rfl⟩ := execPresenceTimeout_cases h
  · exact law
  · refine TargetLaw.targetStationLost ?_ st
    exact law.of_eq rfl rfl rfl rfl id

/-- R67: a lifetime expires. -/
theorem execLifetimeExpiry {s t : State} {place : ReservationPlace} (law : TargetLaw s)
    (h : Machine.execLifetimeExpiry place s = .next t) : TargetLaw t := by
  obtain ⟨i, rfl | rfl⟩ := execLifetimeExpiry_cases h
  · exact law.expireService i
  · obtain h | ⟨r, hr, -, h⟩ := s.expireResponse_cases i <;> rw [h]
    · exact law
    · obtain ⟨hi, -⟩ := List.getElem?_eq_some_iff.mp hr
      exact law.of_erased hi rfl rfl rfl rfl rfl

theorem execWordAccessComplete {s t : State} {other : Option (BitVec 16)} (law : TargetLaw s)
    (h : Machine.execWordAccessComplete other s = .next t) : TargetLaw t := by
  obtain rfl | ⟨op, hop, -, rfl⟩ := execWordAccessComplete_cases h
  · exact law
  · exact law.completeAccess hop other

theorem execNotifyService {s t : State} (law : TargetLaw s) (h : Machine.execNotifyService s = .next t) :
    TargetLaw t := by
  obtain rfl | ⟨e, rest, offset, hq, hd, rfl⟩ := execNotifyService_cases h
  · exact law
  · exact law.serveNotify hq hd

theorem freeStale {s : State} (law : TargetLaw s) : TargetLaw s.freeStale :=
  law.of_eq s.freeStale_target (by rw [State.freeStale_mailbox]) (by rw [State.freeStale_tif]) s.freeStale_port
    fun hoff => by rwa [State.onTrunk, State.freeStale_ctl] at hoff

/-- R180: the end of draining, with both queues empty. -/
theorem execEndOfDraining {s t : State} (law : TargetLaw s) (h : Machine.execEndOfDraining s = .next t) :
    TargetLaw t := by
  obtain rfl | ⟨-, hd, rfl⟩ := execEndOfDraining_cases h
  · exact law
  · obtain ⟨-, -, hservice, hresponses, -, -⟩ := s.drained_iff.mp hd
    exact law.freeStale.leaveTrunk (by rw [State.freeStale_target]; exact ⟨hservice, hresponses⟩)

/-- R25: a request or COMPLETION frame. -/
theorem frameReceived {s t : State} (law : TargetLaw s) {f : Frame}
    (h : t = s ∨ (s.receives = true ∧ (t = s.receive f none ∨ t = s.receiveCorrupt true))) : TargetLaw t := by
  obtain rfl | ⟨-, rfl | rfl⟩ := h
  exacts [law, law.receive f none, law.receiveCorrupt true]

end TargetLaw

/-- R52, R53, R70, R126, R127: every command keeps the laws of the target side. -/
theorem TargetLaw.exec {i : Instr} {s t : State} (law : TargetLaw s) (h : Machine.exec i s = .next t) :
    TargetLaw t := by
  cases i
  case pinReset => cases h; exact law.resetBlocks rfl rfl rfl rfl
  case resetRelease =>
    obtain rfl | rfl := execResetRelease_cases h
    exacts [law, law.of_eq rfl rfl rfl rfl id]
  case endOfLoading eeprom straps =>
    obtain rfl | ⟨-, hs, rfl⟩ := execEndOfLoading_cases h
    exacts [law, law.endOfLoading hs eeprom straps]
  case hostFrameStart =>
    obtain rfl | rfl := execHostFrameStart_cases h
    exacts [law, law.of_eq rfl rfl rfl rfl id]
  case hostFrameEnd => exact law.execHostFrameEnd h
  case contentionSlot slot => exact law.execContentionSlot h
  case roundOpen =>
    obtain rfl | ⟨-, -, rfl⟩ := execRoundOpen_cases s t h
    exacts [law, law.of_eq rfl rfl rfl rfl id]
  case slotBegin => exact law.execSlotBegin h
  case slotEnd cells => exact law.execSlotEnd h
  case ownFrameSent => exact law.execOwnFrameSent h
  case collision => exact law.execCollision h
  case requestFrameReceived f => exact law.frameReceived (execFrameReceived_cases (.inl ⟨f, rfl, rfl⟩) h)
  case completionFrameReceived f => exact law.frameReceived (execFrameReceived_cases (.inr ⟨f, rfl, rfl⟩) h)
  case beaconReceived src =>
    obtain rfl | ⟨-, rfl⟩ := execBeaconReceived_cases h
    exacts [law, law.receive _ _]
  case corruptReception slotFollows =>
    obtain rfl | ⟨-, rfl⟩ := execCorruptReception_cases h
    exacts [law, law.receiveCorrupt _]
  case presenceTimeout st => exact law.execPresenceTimeout h
  case beaconTimerExpiry =>
    obtain rfl | ⟨-, rfl⟩ := execBeaconTimerExpiry_cases h
    exacts [law, law.of_eq rfl rfl rfl rfl id]
  case joinHoldoffExpiry =>
    obtain rfl | ⟨-, -, rfl⟩ := execJoinHoldoffExpiry_cases h
    exacts [law, law.of_eq rfl rfl rfl rfl nofun]
  case holdoffExpiry g =>
    obtain rfl | ⟨-, rfl⟩ := execHoldoffExpiry_cases h
    exacts [law, law.of_eq rfl rfl rfl rfl id]
  case completionTimeout g =>
    obtain rfl | ⟨-, rfl⟩ := execCompletionTimeout_cases h
    exacts [law, law.of_eq rfl rfl rfl rfl id]
  case quarantineExpiry g =>
    obtain rfl | ⟨-, rfl⟩ := execQuarantineExpiry_cases h
    exacts [law, law.of_eq rfl rfl rfl rfl id]
  case lifetimeExpiry place => exact law.execLifetimeExpiry h
  case issue =>
    obtain rfl | ⟨d, rest, g, -, -, -, rfl⟩ := execIssue_cases h
    exacts [law, law.of_eq rfl rfl rfl rfl id]
  case placeRecord =>
    obtain rfl | ⟨g, rest, st, -, -, -, rfl⟩ := execPlaceRecord_cases h
    · exact law
    · unfold State.placeRecord State.retired
      dsimp only
      split <;> exact law.of_eq rfl rfl rfl rfl id
  case memoryGrant =>
    obtain rfl | ⟨op, -, -, hchoice, rfl⟩ := execMemoryGrant_cases s t h
    exacts [law, law.memoryGrant hchoice]
  case wordAccessComplete other => exact law.execWordAccessComplete h
  case waitTimerExpiry =>
    obtain rfl | ⟨op, hop, -, rfl⟩ := execWaitTimerExpiry_cases s t h
    exacts [law, law.endOperation (fun hreq hdis => ⟨op, hop, hreq, hdis⟩) true]
  case notifyService => exact law.execNotifyService h
  case endOfDraining => exact law.execEndOfDraining h
  case hintPulseEnd => cases h; exact law.of_eq rfl rfl rfl rfl id
  case startDelimiterSeen =>
    obtain rfl | ⟨-, -, rfl⟩ := execStartDelimiterSeen_cases h
    exacts [law, law.of_eq rfl rfl rfl rfl id]
  case hostByteComplete b => exact law.hostStep (.execHostByteComplete h)
  all_goals exact law.hostStep (.exec_hostRow rfl h)

theorem TargetLaw.idle {s : State} (law : TargetLaw s) : TargetLaw s.idle := by
  obtain ⟨h, -⟩ | ⟨op, hop, -, h⟩ := s.idle_cases
  · rw [h]
    exact law.tick
  · rw [h]
    refine law.of_kept rfl le_rfl rfl (.of_exchange rfl) ?_ id
    rintro ⟨op', hop', hreq, hdis⟩
    cases hop'
    exact ⟨op, hop, hreq, hdis⟩

/-- Settles O53: an idle step and every command keep the laws of the target side. -/
theorem targetLawKept : Obligations.TargetLawKept := by
  intro s t law hstep
  unfold step at hstep
  split at hstep
  · cases hstep
    exact law.idle
  · next i rest _ => exact TargetLaw.exec (s := { s with pending := rest }) (law.of_eq rfl rfl rfl rfl id) hstep

end Sys2Proof.Machine
end

section
/-! PROOFS. Chapters 5 to 7 (the Issue Engine, the ORT and the retire list): the laws of the initiator side are kept by
every step (O54). -/

namespace Sys2Proof.Machine

/-! ### What the laws of the initiator side read -/

/-- R131: the memory port runs an operation of this requester. -/
def State.runs (s : State) (r : Requester) : Prop := ∃ op, s.port = some op ∧ op.requester = r

theorem State.granted_iff (s : State) (g : Tag) : s.granted g = true ↔ s.runs (.fetch g) ∨ s.runs (.store g) := by
  unfold State.granted State.runs
  cases s.port <;> simp

theorem State.granted_false_iff (s : State) (g : Tag) :
    s.granted g = false ↔ ¬ s.runs (.fetch g) ∧ ¬ s.runs (.store g) := by
  rw [← Bool.not_eq_true, s.granted_iff, not_or]

theorem State.not_runs_of_idle {s : State} (h : s.port = none) (r : Requester) : ¬ s.runs r := by
  rintro ⟨op, hop, -⟩
  simp [h] at hop

theorem State.granted_of_idle {s : State} (h : s.port = none) (g : Tag) : s.granted g = false :=
  (s.granted_false_iff g).mpr ⟨State.not_runs_of_idle h _, State.not_runs_of_idle h _⟩

theorem State.onTrunk_eq {s t : State} (h : t.ctl.station = s.ctl.station) : t.onTrunk = s.onTrunk := by
  rw [State.onTrunk, State.onTrunk, h]

theorem State.granted_eq {s t : State} (h : t.port = s.port) (g : Tag) : t.granted g = s.granted g := by
  rw [State.granted, State.granted, h]

/-- R93: the station is in LOADING or JOINING, where every entry is FREE. -/
def State.ortClear (s : State) : Prop := s.ctl.station = .loading ∨ s.ctl.station = .joining

theorem State.not_ortClear_of_onTrunk {s : State} (h : s.onTrunk = true) : ¬ s.ortClear := by
  rintro (hs | hs) <;> simp [State.onTrunk, hs] at h

/-- R90 to R93, R109, R113, R114: what the laws ask of the entry `e` at tag `g`. -/
structure EntryLaw (s : State) (g : Tag) (e : OrtEntry) : Prop where
  result : e.state = .done → e.result.isSome = true
  awaiting : e.isAwaiting = true → e.target.isSome = true ∧ e.op ≠ .write
  storing : e.state = .storing → e.op = .read
  counts : e.busyRetries ≤ 8 ∧ e.corruptResends ≤ 3
  marked : e.endingMark = true →
    s.onTrunk = false ∧ s.granted g = true ∧ (e.state = .fetching ∨ e.state = .storing)
  fetch : s.runs (.fetch g) → e.state = .fetching
  store : s.runs (.store g) → e.state = .storing
  offTrunk : s.onTrunk = false → e.state = .free ∨ e.state = .done ∨ e.endingMark = true
  clear : s.ortClear → e.state = .free

/-- R87, R90, R120: what the laws ask of the three lists of tags. -/
structure OrtLists (s : State) : Prop where
  orderNodup : s.ort.issueOrder.Nodup
  ordered : ∀ g, g ∈ s.ort.issueOrder ↔ (s.entry g).state ≠ .free
  unsent : s.issue.unsent = s.ort.issueOrder.filter (fun g => (s.entry g).onUnsent)
  retireNodup : s.completion.retire.Nodup
  retired : ∀ g, g ∈ s.completion.retire ↔ (s.entry g).state = .done

namespace OrtLaw

variable {s t : State}

theorem lists (law : OrtLaw s) : OrtLists s := { law with }

theorem entryLaw (law : OrtLaw s) (g : Tag) : EntryLaw s g (s.entry g) where
  result := law.result g
  awaiting := law.awaiting g
  storing := law.storing g
  counts := law.counts g
  marked := law.marked g
  fetch := fun ⟨op, hop, hr⟩ => (law.port op hop).1 g hr
  store := fun ⟨op, hop, hr⟩ => (law.port op hop).2 g hr
  offTrunk hoff := law.offTrunk hoff g
  clear hclear := law.clear hclear g

/-- The laws, from those of the lists and of each entry. -/
theorem of_entries (lists : OrtLists t) (entries : ∀ g, EntryLaw t g (t.entry g))
    (oneFetch : ∀ g u, (t.entry g).state = .fetching → (t.entry u).state = .fetching → g = u) : OrtLaw t :=
  { lists with
    result := fun g => (entries g).result
    awaiting := fun g => (entries g).awaiting
    storing := fun g => (entries g).storing
    counts := fun g => (entries g).counts
    oneFetch := oneFetch
    marked := fun g => (entries g).marked
    port := fun op hop => ⟨fun g hr => (entries g).fetch ⟨op, hop, hr⟩, fun g hr => (entries g).store ⟨op, hop, hr⟩⟩
    offTrunk := fun hoff g => (entries g).offTrunk hoff
    clear := fun hclear g => (entries g).clear hclear }

/-- A step that makes no entry FETCHING. -/
theorem of_noFetch (law : OrtLaw s) (lists : OrtLists t) (entries : ∀ g, EntryLaw t g (t.entry g))
    (fetching : ∀ g, (t.entry g).state = .fetching → (s.entry g).state = .fetching) : OrtLaw t :=
  of_entries lists entries fun g u hg hu => law.oneFetch g u (fetching g hg) (fetching u hu)

end OrtLaw

/-! ### One entry -/

namespace EntryLaw

variable {s t : State} {g : Tag} {e : OrtEntry}

/-- The memory port runs nothing of an entry that is neither FETCHING nor STORING. -/
theorem not_granted (law : EntryLaw s g e) (h : e.state ≠ .fetching ∧ e.state ≠ .storing) : s.granted g = false :=
  (s.granted_false_iff g).mpr ⟨fun hr => h.1 (law.fetch hr), fun hr => h.2 (law.store hr)⟩

/-- An entry whose operation is not granted carries no ending mark. -/
theorem unmarked (law : EntryLaw s g e) (h : s.granted g = false) : e.endingMark = false := by
  by_contra hm
  obtain ⟨-, hg, -⟩ := law.marked (Bool.eq_true_of_not_eq_false hm)
  simp [h] at hg

/-- READY, HOLD, AWAITING and STALE entries are on the trunk alone. -/
theorem onTrunk (law : EntryLaw s g e) (free : e.state ≠ .free) (done : e.state ≠ .done)
    (h : s.granted g = false) : s.onTrunk = true := by
  by_contra hoff
  obtain h0 | h0 | h0 := law.offTrunk (Bool.eq_false_iff.mpr hoff)
  · exact free h0
  · exact done h0
  · simp [law.unmarked h] at h0

/-- The law of an entry, from a state with the same view of it. -/
theorem of_eq (law : EntryLaw s g e) (fetch : t.runs (.fetch g) ↔ s.runs (.fetch g))
    (store : t.runs (.store g) ↔ s.runs (.store g)) (trunk : t.onTrunk = s.onTrunk)
    (clear : t.ortClear → s.ortClear) : EntryLaw t g e :=
  { law with
    marked := fun hm => by
      obtain ⟨hoff, hg, hs⟩ := law.marked hm
      exact ⟨trunk ▸ hoff, by rwa [t.granted_iff, fetch, store, ← s.granted_iff], hs⟩
    fetch := fun hr => law.fetch (fetch.mp hr)
    store := fun hr => law.store (store.mp hr)
    offTrunk := fun hoff => law.offTrunk (trunk ▸ hoff)
    clear := fun hc => law.clear (clear hc) }

theorem of_blocks (law : EntryLaw s g e) (port : t.port = s.port) (station : t.ctl.station = s.ctl.station) :
    EntryLaw t g e :=
  law.of_eq (by rw [State.runs, State.runs, port]) (by rw [State.runs, State.runs, port]) (State.onTrunk_eq station)
    fun h => by rwa [State.ortClear, station] at h

/-- R109: an entry that enters DONE. -/
theorem finish (counts : e.busyRetries ≤ 8 ∧ e.corruptResends ≤ 3) (idle : t.granted g = false)
    (clear : ¬ t.ortClear) (st : Status) : EntryLaw t g (e.finish st) where
  result _ := rfl
  awaiting := nofun
  storing := nofun
  counts := counts
  marked := nofun
  fetch hr := absurd hr ((t.granted_false_iff g).mp idle).1
  store hr := absurd hr ((t.granted_false_iff g).mp idle).2
  offTrunk _ := .inr (.inl rfl)
  clear h := absurd h clear

/-- R111: a FREE entry. -/
theorem blank (idle : t.granted g = false) : EntryLaw t g OrtEntry.blank where
  result := nofun
  awaiting := nofun
  storing := nofun
  counts := ⟨Nat.zero_le _, Nat.zero_le _⟩
  marked := nofun
  fetch hr := absurd hr ((t.granted_false_iff g).mp idle).1
  store hr := absurd hr ((t.granted_false_iff g).mp idle).2
  offTrunk _ := .inl rfl
  clear _ := rfl

/-- An entry on the trunk that is not DONE, with no memory operation in flight. -/
theorem onWay (on : t.onTrunk = true) (idle : t.granted g = false) (unmarked : e.endingMark = false)
    (done : e.state ≠ .done) (awaiting : e.isAwaiting = true → e.target.isSome = true ∧ e.op ≠ .write)
    (storing : e.state = .storing → e.op = .read) (counts : e.busyRetries ≤ 8 ∧ e.corruptResends ≤ 3) :
    EntryLaw t g e where
  result h := absurd h done
  awaiting := awaiting
  storing := storing
  counts := counts
  marked h := by simp [unmarked] at h
  fetch hr := absurd hr ((t.granted_false_iff g).mp idle).1
  store hr := absurd hr ((t.granted_false_iff g).mp idle).2
  offTrunk hoff := by simp [on] at hoff
  clear h := absurd h (State.not_ortClear_of_onTrunk on)

/-- With the port idle, an entry FETCHING or STORING keeps its law when the port grants its operation. -/
theorem grant (law : EntryLaw s g e) (idle : s.port = none) (fetch : t.runs (.fetch g) → e.state = .fetching)
    (store : t.runs (.store g) → e.state = .storing) (station : t.ctl.station = s.ctl.station) : EntryLaw t g e :=
  have trunk : t.onTrunk = s.onTrunk := State.onTrunk_eq station
  { law with
    marked := fun hm => by simp [law.unmarked (State.granted_of_idle idle g)] at hm
    fetch := fetch
    store := store
    offTrunk := fun hoff => law.offTrunk (trunk ▸ hoff)
    clear := fun hc => law.clear (by rwa [State.ortClear, station] at hc) }

end EntryLaw

/-! ### The lists -/

namespace OrtLists

variable {s t : State} {g : Tag} {e : OrtEntry}

theorem of_eq (lists : OrtLists s) (ort : t.ort = s.ort) (unsent : t.issue.unsent = s.issue.unsent)
    (retire : t.completion.retire = s.completion.retire) : OrtLists t := by
  have entry : ∀ g, t.entry g = s.entry g := fun g => by rw [State.entry, State.entry, ort]
  obtain ⟨h1, h2, h3, h4, h5⟩ := lists
  exact ⟨ort ▸ h1, fun g => by rw [ort, entry, h2], by simp only [unsent, h3, ort, entry], retire ▸ h4,
    fun g => by rw [retire, entry, h5]⟩

theorem mem_unsent (lists : OrtLists s) (g : Tag) : g ∈ s.issue.unsent ↔ (s.entry g).onUnsent = true := by
  rw [lists.unsent, List.mem_filter, lists.ordered]
  refine ⟨And.right, fun h => ⟨fun hf => ?_, h⟩⟩
  simp [OrtEntry.onUnsent, hf] at h

/-- Taking a tag out of a list without it. -/
theorem filter_ne_eq_self {l : List Tag} (h : g ∉ l) : l.filter (fun u => decide (u ≠ g)) = l :=
  List.filter_eq_self.mpr fun _ hu => decide_eq_true (ne_of_mem_of_not_mem hu h)

/-- The unsent list without one tag. -/
theorem unsent_without (lists : OrtLists s) (entry : ∀ u, t.entry u = if u = g then e else s.entry u)
    (off : e.onUnsent = false) :
    s.issue.unsent.filter (fun u => decide (u ≠ g)) = s.ort.issueOrder.filter (fun u => (t.entry u).onUnsent) := by
  rw [lists.unsent, List.filter_filter]
  refine List.filter_congr fun u _ => ?_
  rw [entry]
  by_cases h : u = g <;> simp [h, off]

/-- One entry changes and stays on its lists. -/
theorem kept (lists : OrtLists s) (entry : ∀ u, t.entry u = if u = g then e else s.entry u)
    (order : t.ort.issueOrder = s.ort.issueOrder) (unsent : t.issue.unsent = s.issue.unsent)
    (retire : t.completion.retire = s.completion.retire) (free : e.state = .free ↔ (s.entry g).state = .free)
    (done : e.state = .done ↔ (s.entry g).state = .done) (on : e.onUnsent = (s.entry g).onUnsent) : OrtLists t where
  orderNodup := order ▸ lists.orderNodup
  ordered u := by
    rw [order, lists.ordered, entry]
    split
    · next h => rw [h, Ne, Ne, free]
    · rfl
  unsent := by
    rw [unsent, lists.unsent, order]
    refine List.filter_congr fun u _ => ?_
    rw [entry]
    split
    · next h => rw [h, on]
    · rfl
  retireNodup := retire ▸ lists.retireNodup
  retired u := by
    rw [retire, lists.retired, entry]
    split
    · next h => rw [h, done]
    · rfl

/-- R87: a READY entry leaves the unsent list. -/
theorem sent (lists : OrtLists s) (entry : ∀ u, t.entry u = if u = g then e else s.entry u)
    (order : t.ort.issueOrder = s.ort.issueOrder)
    (unsent : t.issue.unsent = s.issue.unsent.filter (fun u => decide (u ≠ g)))
    (retire : t.completion.retire = s.completion.retire) (free : e.state = .free ↔ (s.entry g).state = .free)
    (done : e.state = .done ↔ (s.entry g).state = .done) (off : e.onUnsent = false) : OrtLists t where
  orderNodup := order ▸ lists.orderNodup
  ordered u := by
    rw [order, lists.ordered, entry]
    split
    · next h => rw [h, Ne, Ne, free]
    · rfl
  unsent := by rw [unsent, lists.unsent_without entry off, order]
  retireNodup := retire ▸ lists.retireNodup
  retired u := by
    rw [retire, lists.retired, entry]
    split
    · next h => rw [h, done]
    · rfl

/-- R109: one entry enters DONE. -/
theorem entered (lists : OrtLists s) (entry : ∀ u, t.entry u = if u = g then e else s.entry u)
    (order : t.ort.issueOrder = s.ort.issueOrder)
    (unsent : t.issue.unsent = s.issue.unsent.filter (fun u => decide (u ≠ g)))
    (retire : t.completion.retire = s.completion.retire ++ [g]) (free : (s.entry g).state ≠ .free)
    (notDone : (s.entry g).state ≠ .done) (done : e.state = .done) : OrtLists t where
  orderNodup := order ▸ lists.orderNodup
  ordered u := by
    rw [order, lists.ordered, entry]
    split
    · next h => simp [h, done, free]
    · rfl
  unsent := by rw [unsent, lists.unsent_without entry (by simp [OrtEntry.onUnsent, done]), order]
  retireNodup := by
    rw [retire]
    exact lists.retireNodup.append (List.nodup_singleton g) (by simp [lists.retired, notDone])
  retired u := by
    rw [retire, List.mem_append, lists.retired, entry]
    split
    · next h => simp [h, done]
    · next h => simp [h]

/-- R111, R112: one entry, STALE or DONE, becomes FREE. -/
theorem freed (lists : OrtLists s) (entry : ∀ u, t.entry u = if u = g then e else s.entry u)
    (order : t.ort.issueOrder = s.ort.issueOrder.filter (fun u => decide (u ≠ g)))
    (unsent : t.issue.unsent = s.issue.unsent) (off : (s.entry g).onUnsent = false) (free : e.state = .free)
    (retireNodup : t.completion.retire.Nodup)
    (retired : ∀ u, u ∈ t.completion.retire ↔ u ≠ g ∧ (s.entry u).state = .done) : OrtLists t where
  orderNodup := order ▸ lists.orderNodup.filter _
  ordered u := by
    rw [order, List.mem_filter, lists.ordered, entry, decide_eq_true_eq]
    split
    · next h => simp [h, free]
    · next h => simp [h]
  unsent := by
    have hg : g ∉ s.issue.unsent := by simp [lists.mem_unsent, off]
    have hwithout := lists.unsent_without entry (by simp [OrtEntry.onUnsent, free])
    rw [filter_ne_eq_self hg] at hwithout
    rw [unsent, hwithout, order, List.filter_filter]
    refine List.filter_congr fun u _ => ?_
    by_cases h : u = g <;> simp [h, entry, OrtEntry.onUnsent, free]
  retireNodup := retireNodup
  retired u := by
    rw [retired, entry]
    split
    · next h => simp [h, free]
    · next h => simp [h]

/-- R111: one entry, DONE, becomes STALE. -/
theorem quarantined (lists : OrtLists s) (entry : ∀ u, t.entry u = if u = g then e else s.entry u)
    (order : t.ort.issueOrder = s.ort.issueOrder) (unsent : t.issue.unsent = s.issue.unsent) {k : Nat}
    (done : (s.entry g).state = .done) (stale : e.state = .stale k)
    (retireNodup : t.completion.retire.Nodup)
    (retired : ∀ u, u ∈ t.completion.retire ↔ u ≠ g ∧ (s.entry u).state = .done) : OrtLists t where
  orderNodup := order ▸ lists.orderNodup
  ordered u := by
    rw [order, lists.ordered, entry]
    split
    · next h => simp [h, done, stale]
    · rfl
  unsent := by
    have hg : g ∉ s.issue.unsent := by simp [lists.mem_unsent, OrtEntry.onUnsent, done]
    rw [unsent, order, ← lists.unsent_without entry (by simp [OrtEntry.onUnsent, stale]), filter_ne_eq_self hg]
  retireNodup := retireNodup
  retired u := by
    rw [retired, entry]
    split
    · next h => simp [h, stale]
    · next h => simp [h]

end OrtLists

namespace OrtLaw

variable {s t : State}

/-! ### Steps that leave the entries alone -/

/-- A step that leaves the ORT and its lists alone, runs the same fetch or store, and stays on or off the trunk. -/
theorem of_runs (law : OrtLaw s) (ort : t.ort = s.ort) (unsent : t.issue.unsent = s.issue.unsent)
    (retire : t.completion.retire = s.completion.retire) (runs : ∀ r, r ≠ .target → (t.runs r ↔ s.runs r))
    (trunk : t.onTrunk = s.onTrunk) (clear : t.ortClear → s.ortClear) : OrtLaw t := by
  have entry : ∀ g, t.entry g = s.entry g := fun g => by rw [State.entry, State.entry, ort]
  refine law.of_noFetch (law.lists.of_eq ort unsent retire) (fun g => ?_) fun g h => entry g ▸ h
  rw [entry]
  exact (law.entryLaw g).of_eq (runs _ nofun) (runs _ nofun) trunk clear

/-- A step that leaves the initiator side, the port and the station state alone. -/
theorem of_eq (law : OrtLaw s) (ort : t.ort = s.ort) (unsent : t.issue.unsent = s.issue.unsent)
    (retire : t.completion.retire = s.completion.retire) (port : t.port = s.port)
    (station : t.ctl.station = s.ctl.station) : OrtLaw t :=
  law.of_runs ort unsent retire (fun r _ => by rw [State.runs, State.runs, port]) (State.onTrunk_eq station)
    fun h => by rwa [State.ortClear, station] at h

/-- Every entry FREE, off the trunk or on it. -/
theorem of_free (lists : OrtLists t) (free : ∀ g, (t.entry g).state = .free)
    (entries : ∀ g, EntryLaw t g (t.entry g)) : OrtLaw t :=
  of_entries lists entries fun g u hg => by simp [free] at hg

/-! ### One entry -/

section OneEntry

variable {g : Tag} {e : OrtEntry}

/-- A step that changes one entry; the port runs the same for every other. -/
theorem of_entry (law : OrtLaw s) (entry : ∀ u, t.entry u = if u = g then e else s.entry u) (lists : OrtLists t)
    (changed : EntryLaw t g e) (fetching : e.state = .fetching → (s.entry g).state = .fetching)
    (station : t.ctl.station = s.ctl.station)
    (runs : ∀ u, u ≠ g → (t.runs (.fetch u) ↔ s.runs (.fetch u)) ∧ (t.runs (.store u) ↔ s.runs (.store u))) :
    OrtLaw t := by
  refine law.of_noFetch lists (fun u => ?_) fun u hu => ?_
  · rw [entry]
    split
    · next h => exact h ▸ changed
    · next h =>
      obtain ⟨hfetch, hstore⟩ := runs u h
      exact (law.entryLaw u).of_eq hfetch hstore (State.onTrunk_eq station)
        fun hc => by rwa [State.ortClear, station] at hc
  · rw [entry] at hu
    split at hu
    · next h => exact h ▸ fetching hu
    · exact hu

theorem runs_of_port (port : t.port = s.port) (u : Tag) :
    (t.runs (.fetch u) ↔ s.runs (.fetch u)) ∧ (t.runs (.store u) ↔ s.runs (.store u)) := by
  simp only [State.runs, port, and_self]

/-- R109: an entry with no memory operation in flight enters DONE. -/
theorem enterDone (law : OrtLaw s) {e : OrtEntry} (st : Status)
    (counts : e.busyRetries = (s.entry g).busyRetries ∧ e.corruptResends = (s.entry g).corruptResends)
    (free : (s.entry g).state ≠ .free) (done : (s.entry g).state ≠ .done) (idle : s.granted g = false) :
    OrtLaw (s.enterDone g e st) := by
  obtain ⟨hbusy, hcorrupt⟩ := counts
  refine law.of_entry (s.enterDone_entry g · e st)
    (law.lists.entered (s.enterDone_entry g · e st) rfl rfl rfl free done rfl) ?_ nofun rfl
    fun u _ => runs_of_port rfl u
  refine EntryLaw.finish (t := s.enterDone g e st) (by rw [hbusy, hcorrupt]; exact law.counts g) idle
    (fun hc => free ?_) st
  exact law.clear hc g

/-- An entry on the trunk moves on, and stays where it is on the lists. -/
theorem setEntry (law : OrtLaw s) {e : OrtEntry} (on : s.onTrunk = true) (idle : s.granted g = false)
    (unmarked : e.endingMark = false) (live : (s.entry g).state ≠ .free ∧ (s.entry g).state ≠ .done)
    (live' : e.state ≠ .free ∧ e.state ≠ .done ∧ e.state ≠ .fetching) (list : e.onUnsent = (s.entry g).onUnsent)
    (awaiting : e.isAwaiting = true → e.target.isSome = true ∧ e.op ≠ .write)
    (storing : e.state = .storing → e.op = .read) (counts : e.busyRetries ≤ 8 ∧ e.corruptResends ≤ 3) :
    OrtLaw (s.setEntry g e) := by
  obtain ⟨hfree, hdone⟩ := live
  obtain ⟨hfree', hdone', hfetch⟩ := live'
  exact law.of_entry (s.setEntry_entry g · e)
    (law.lists.kept (s.setEntry_entry g · e) rfl rfl rfl (iff_of_false hfree' hfree) (iff_of_false hdone' hdone) list)
    (.onWay on idle unmarked hdone' awaiting storing counts) (fun h => absurd h hfetch) rfl
    fun u _ => runs_of_port rfl u

/-- R97: the entry in HOLD becomes READY. -/
theorem holdoffExpired (law : OrtLaw s) {k : Nat} (hold : (s.entry g).state = .hold k) :
    OrtLaw (s.setEntry g { s.entry g with state := .ready }) := by
  have hidle : s.granted g = false := (law.entryLaw g).not_granted (by simp [hold])
  have hon : s.onTrunk = true := (law.entryLaw g).onTrunk (by simp [hold]) (by simp [hold]) hidle
  refine law.setEntry hon hidle ((law.entryLaw g).unmarked hidle) (by simp [hold]) (by simp) ?_ nofun nofun
    (law.counts g)
  rw [OrtEntry.onUnsent, OrtEntry.onUnsent, hold]

/-- R112: a STALE entry becomes FREE. -/
theorem freeEntry (law : OrtLaw s) {k : Nat} (stale : (s.entry g).state = .stale k) : OrtLaw (s.freeEntry g) := by
  have hidle : s.granted g = false := (law.entryLaw g).not_granted (by simp [stale])
  refine law.of_entry (s.freeEntry_entry g) ?_ (.blank hidle) nofun rfl fun u _ => runs_of_port rfl u
  refine law.lists.freed (s.freeEntry_entry g) rfl rfl (by simp [OrtEntry.onUnsent, stale]) rfl law.retireNodup ?_
  intro u
  rw [State.freeEntry_completion, law.retired]
  refine ⟨fun h => ⟨fun hu => ?_, h⟩, And.right⟩
  simp [hu, stale] at h

/-- R111, R121: the record of the first tag of the retire list is placed. -/
theorem placeRecord (law : OrtLaw s) {rest : List Tag} (hretire : s.completion.retire = g :: rest) (st : Status) :
    OrtLaw (s.placeRecord g rest st) := by
  have hdone : (s.entry g).state = .done := (law.retired g).mp (by simp [hretire])
  have hidle : s.granted g = false := (law.entryLaw g).not_granted (by simp [hdone])
  obtain ⟨hg, hrest⟩ := List.nodup_cons.mp (hretire ▸ law.retireNodup)
  have hretired : ∀ u, u ∈ rest ↔ u ≠ g ∧ (s.entry u).state = .done := by
    intro u
    rw [← law.retired, hretire, List.mem_cons]
    exact ⟨fun h => ⟨ne_of_mem_of_not_mem h hg, .inr h⟩, fun ⟨hne, h⟩ => h.resolve_left hne⟩
  unfold State.placeRecord State.retired
  dsimp only
  split
  · next hq =>
    refine law.of_entry (g := g) (s.setEntry_entry g · _)
      (law.lists.quarantined (s.setEntry_entry g · _) rfl rfl hdone rfl hrest hretired) ?_ nofun rfl
      fun u _ => runs_of_port rfl u
    exact .onWay hq.2 hidle ((law.entryLaw g).unmarked hidle) nofun nofun nofun (law.counts g)
  · exact law.of_entry (g := g) (s.freeEntry_entry g)
      (law.lists.freed (s.freeEntry_entry g) rfl rfl (by simp [OrtEntry.onUnsent, hdone]) rfl hrest hretired)
      (.blank hidle) nofun rfl fun u _ => runs_of_port rfl u

end OneEntry

/-- R81, R84: the head descriptor is issued into a FREE entry, on the trunk. -/
theorem issueInto (law : OrtLaw s) {d : Descriptor} {g : Tag} (rest : List Descriptor) (on : s.onTrunk = true)
    (free : (s.entry g).state = .free) (fetch : d.op.fetches = true → ∀ u, (s.entry u).state ≠ .fetching) :
    OrtLaw (s.issueInto g d rest) := by
  have entry := (s.issueInto_entry g · d rest)
  have hidle : s.granted g = false := (law.entryLaw g).not_granted (by simp [free])
  have hnew : g ∉ s.ort.issueOrder := by simp [law.ordered, free]
  have hstate : (issuedEntry d).state = .fetching ∨ (issuedEntry d).state = .ready := by
    unfold issuedEntry
    dsimp only
    split
    · exact .inl rfl
    · exact .inr rfl
  have hlive : (issuedEntry d).state ≠ .free ∧ (issuedEntry d).state ≠ .done ∧ (issuedEntry d).state ≠ .storing := by
    obtain h | h := hstate <;> simp [h]
  have hlist : (issuedEntry d).onUnsent = true := by
    obtain h | h := hstate <;> rw [OrtEntry.onUnsent, h] <;> rfl
  obtain ⟨hfree, hdone, hstoring⟩ := hlive
  have hawaiting : (issuedEntry d).isAwaiting = false := by
    obtain h | h := hstate <;> simp [OrtEntry.isAwaiting, h]
  refine of_entries ⟨?_, fun u => ?_, ?_, law.retireNodup, fun u => ?_⟩ (fun u => ?_) fun u v hu hv => ?_
  · exact law.orderNodup.append (List.nodup_singleton g) (by simpa using hnew)
  · rw [entry]
    change u ∈ s.ort.issueOrder ++ [g] ↔ _
    rw [List.mem_append, law.ordered]
    split
    · next h => simp [h, hfree]
    · next h => simp [h]
  · change s.issue.unsent ++ [g] = (s.ort.issueOrder ++ [g]).filter _
    rw [List.filter_append, law.unsent]
    congr 1
    · refine List.filter_congr fun u hu => ?_
      rw [entry, if_neg (ne_of_mem_of_not_mem hu hnew)]
    · simp [entry, hlist]
  · rw [entry]
    change u ∈ s.completion.retire ↔ _
    rw [law.retired]
    split
    · next h => simp [h, hdone, free]
    · rfl
  · rw [entry]
    split
    · next h =>
      subst h
      exact .onWay on hidle rfl hdone (fun h => by simp [hawaiting] at h) (fun h => absurd h hstoring)
        ⟨Nat.zero_le _, Nat.zero_le _⟩
    · exact (law.entryLaw u).of_blocks rfl rfl
  · have hother : ∀ w, ((s.issueInto g d rest).entry w).state = .fetching → w = g ∨ (s.entry w).state = .fetching := by
      intro w hw
      rw [entry] at hw
      split at hw
      · exact .inl ‹_›
      · exact .inr hw
    have hfetches : ((s.issueInto g d rest).entry g).state = .fetching → d.op.fetches = true := by
      intro h
      rw [entry, if_pos rfl] at h
      by_contra hno
      simp [issuedEntry, hno] at h
    obtain rfl | hu' := hother u hu <;> obtain rfl | hv' := hother v hv
    · rfl
    · exact absurd hv' (fetch (hfetches hu) v)
    · exact absurd hu' (fetch (hfetches hv) u)
    · exact law.oneFetch u v hu' hv'

end OrtLaw

/-! ### Entries off the trunk, and their timers -/

namespace EntryLaw

variable {s t : State} {g : Tag} {e : OrtEntry}

/-- An entry FREE or DONE, where no operation of it is in flight. -/
theorem rest (law : EntryLaw s g e) (h : e.state = .free ∨ (e.state = .done ∧ ¬ t.ortClear))
    (idle : t.granted g = false) : EntryLaw t g e := by
  have hmem : e.state ≠ .fetching ∧ e.state ≠ .storing := by obtain h | ⟨h, -⟩ := h <;> simp [h]
  have hunmarked := law.unmarked (law.not_granted hmem)
  obtain ⟨hfetch, hstore⟩ := (t.granted_false_iff g).mp idle
  exact { law with
    marked := fun hm => by simp [hunmarked] at hm
    fetch := fun hr => absurd hr hfetch
    store := fun hr => absurd hr hstore
    offTrunk := fun _ => h.imp id fun h => .inl h.1
    clear := fun hc => h.elim id fun h => absurd hc h.2 }

/-- R114, R115: an entry of a stay that has ended. -/
theorem abort (law : EntryLaw s g e) (granted : t.granted g = s.granted g)
    (fetch : t.runs (.fetch g) ↔ s.runs (.fetch g)) (store : t.runs (.store g) ↔ s.runs (.store g))
    (off : t.onTrunk = false) (clear : ¬ t.ortClear) : EntryLaw t g (e.abort (s.granted g)) := by
  have marks : (e.state = .fetching ∨ e.state = .storing) → s.granted g = true →
      EntryLaw t g { e with endingMark := true } := fun hs hg =>
    { law with
      marked := fun _ => ⟨off, granted.trans hg, hs⟩
      fetch := fun hr => law.fetch (fetch.mp hr)
      store := fun hr => law.store (store.mp hr)
      offTrunk := fun _ => .inr (.inr rfl)
      clear := fun hc => absurd hc clear }
  have ends : s.granted g = false → EntryLaw t g (e.finish .aborted) := fun hg =>
    .finish law.counts (granted.trans hg) clear _
  have idle : e.state ≠ .fetching ∧ e.state ≠ .storing → t.granted g = false := fun h =>
    granted.trans (law.not_granted h)
  have waits : e.state ≠ .fetching ∧ e.state ≠ .storing → EntryLaw t g (e.finish .aborted) := fun h =>
    ends (law.not_granted h)
  unfold OrtEntry.abort
  split
  case h_1 hs => exact law.rest (.inl hs) (idle (by simp [hs]))
  case h_2 hs =>
    split
    · exact marks (.inl hs) ‹_›
    · exact ends (Bool.eq_false_iff.mpr ‹_›)
  case h_3 hs => exact waits (by simp [hs])
  case h_4 hs => exact waits (by simp [hs])
  case h_5 hs => exact waits (by simp [hs])
  case h_6 hs =>
    split
    · exact marks (.inr hs) ‹_›
    · exact ends (Bool.eq_false_iff.mpr ‹_›)
  case h_7 hs => exact law.rest (.inr ⟨hs, clear⟩) (idle (by simp [hs]))
  case h_8 hs => exact .blank (idle (by simp [hs]))

end EntryLaw

section Tick

variable (x : EntryState)

@[simp] theorem EntryState.tick_eq_free : x.tick = .free ↔ x = .free := by cases x <;> simp [EntryState.tick]
@[simp] theorem EntryState.tick_eq_done : x.tick = .done ↔ x = .done := by cases x <;> simp [EntryState.tick]
@[simp] theorem EntryState.tick_eq_fetching : x.tick = .fetching ↔ x = .fetching := by
  cases x <;> simp [EntryState.tick]
@[simp] theorem EntryState.tick_eq_storing : x.tick = .storing ↔ x = .storing := by
  cases x <;> simp [EntryState.tick]

end Tick

/-- One tick of an entry's timer. -/
def OrtEntry.tick (e : OrtEntry) : OrtEntry := { e with state := e.state.tick }

theorem OrtEntry.tick_onUnsent (e : OrtEntry) : e.tick.onUnsent = e.onUnsent := by
  unfold OrtEntry.onUnsent OrtEntry.tick
  cases e.state <;> rfl

theorem OrtEntry.tick_isAwaiting (e : OrtEntry) : e.tick.isAwaiting = e.isAwaiting := by
  unfold OrtEntry.isAwaiting OrtEntry.tick
  cases e.state <;> rfl

theorem EntryLaw.tick {s : State} {g : Tag} {e : OrtEntry} (law : EntryLaw s g e) : EntryLaw s g e.tick where
  result h := law.result (e.state.tick_eq_done.mp h)
  awaiting h := law.awaiting (e.tick_isAwaiting ▸ h)
  storing h := law.storing (e.state.tick_eq_storing.mp h)
  counts := law.counts
  marked hm := by
    obtain ⟨hoff, hg, hs⟩ := law.marked hm
    exact ⟨hoff, hg, hs.imp e.state.tick_eq_fetching.mpr e.state.tick_eq_storing.mpr⟩
  fetch hr := e.state.tick_eq_fetching.mpr (law.fetch hr)
  store hr := e.state.tick_eq_storing.mpr (law.store hr)
  offTrunk hoff := (law.offTrunk hoff).imp e.state.tick_eq_free.mpr (.imp_left e.state.tick_eq_done.mpr)
  clear hc := e.state.tick_eq_free.mpr (law.clear hc)

/-! ### All the entries -/

namespace OrtLaw

variable {s t : State}

/-- Every running timer of an entry has one tick less remaining. -/
theorem ticked (law : OrtLaw s) (entry : ∀ g, t.entry g = (s.entry g).tick)
    (order : t.ort.issueOrder = s.ort.issueOrder) (unsent : t.issue.unsent = s.issue.unsent)
    (retire : t.completion.retire = s.completion.retire) (port : t.port = s.port)
    (station : t.ctl.station = s.ctl.station) : OrtLaw t := by
  obtain ⟨h1, h2, h3, h4, h5⟩ := law.lists
  refine law.of_noFetch ⟨order ▸ h1, fun g => ?_, ?_, retire ▸ h4, fun g => ?_⟩ (fun g => ?_) fun g => ?_
  · rw [order, h2, entry, OrtEntry.tick, Ne, Ne, EntryState.tick_eq_free]
  · simp only [unsent, h3, order, entry, OrtEntry.tick_onUnsent]
  · rw [retire, h5, entry, OrtEntry.tick, EntryState.tick_eq_done]
  · rw [entry]
    exact ((law.entryLaw g).of_blocks port station).tick
  · rw [entry]
    exact (s.entry g).state.tick_eq_fetching.mp

theorem tick (law : OrtLaw s) : OrtLaw s.tick := by
  by_cases h : s.held = true
  · rw [State.tick, if_pos h]
    exact law
  · refine law.ticked (fun g => ?_) ?_ ?_ ?_ ?_ ?_
    · rw [s.tick_entry, if_neg h]
      rfl
    all_goals rw [State.tick, if_neg h]

/-- R114, R115: every request of a stay is ended, off the trunk. -/
theorem ended (law : OrtLaw s) (ort : t.ort = s.abortRequests.ort) (unsent : t.issue.unsent = [])
    (retire : t.completion.retire = s.abortRequests.completion.retire)
    (runs : ∀ r, r ≠ .target → (t.runs r ↔ s.runs r)) (off : t.onTrunk = false) (clear : ¬ t.ortClear) : OrtLaw t := by
  have entry : ∀ g, t.entry g = (s.entry g).abort (s.granted g) := fun g => by
    rw [← s.abortRequests_entry, State.entry, State.entry, ort]
  have hfree : ∀ e b, (OrtEntry.abort e b).state = .free ↔ e.state = .free ∨ ∃ k, e.state = .stale k := by
    intro e b
    unfold OrtEntry.abort
    cases h : e.state <;> cases b <;> simp [h, OrtEntry.finish, OrtEntry.blank]
  have hlist : ∀ e b, (OrtEntry.abort e b).onUnsent = false := by
    intro e b
    unfold OrtEntry.abort
    cases h : e.state <;> cases b <;> simp [h, OrtEntry.finish, OrtEntry.blank, OrtEntry.onUnsent]
  have hdone : ∀ e b, (OrtEntry.abort e b).state = .done ↔ e.state = .done ∨ e.endsAtAbort b = true := by
    intro e b
    rw [OrtEntry.endsAtAbort_iff]
    by_cases h : e.state = .done <;> simp [h, OrtEntry.abort_kept]
  have hfetching : ∀ e b, (OrtEntry.abort e b).state = .fetching → e.state = .fetching := by
    intro e b
    unfold OrtEntry.abort
    cases h : e.state <;> cases b <;> simp [h, OrtEntry.finish, OrtEntry.blank]
  have hretire : t.completion.retire = s.completion.retire
      ++ s.ort.issueOrder.filter (fun g => (s.entry g).endsAtAbort (s.granted g)) := retire
  have horder : t.ort.issueOrder = s.ort.issueOrder.filter (fun g => !(s.entry g).isStale) := by rw [ort]; rfl
  refine law.of_noFetch ⟨?_, fun g => ?_, ?_, ?_, fun g => ?_⟩ (fun g => ?_) fun g => ?_
  · rw [horder]
    exact law.orderNodup.filter _
  · rw [entry, Ne, hfree, ort, s.mem_abortRequests_issueOrder, law.ordered]
    simp
  · rw [unsent, eq_comm, List.filter_eq_nil_iff]
    intro g _
    simp [entry, hlist]
  · rw [hretire]
    refine law.retireNodup.append (law.orderNodup.filter _) fun g hg hmem => ?_
    have hends := (OrtEntry.endsAtAbort_iff _ _).mp (List.mem_filter.mp hmem).2
    exact hends.1 ((law.retired g).mp hg)
  · rw [hretire, List.mem_append, List.mem_filter, entry, hdone, law.retired, law.ordered]
    refine or_congr_right (and_iff_right_of_imp fun h hf => ?_)
    simp [OrtEntry.endsAtAbort, hf] at h
  · rw [entry]
    have hfetch := runs (.fetch g) nofun
    have hstore := runs (.store g) nofun
    refine (law.entryLaw g).abort ?_ hfetch hstore off clear
    rw [Bool.eq_iff_iff, t.granted_iff, s.granted_iff, hfetch, hstore]
  · rw [entry]
    exact hfetching _ _

/-- R106: the entries that await a lost station enter DONE. -/
theorem ortStationLost (law : OrtLaw s) (st : StationNo) : OrtLaw (s.ortStationLost st) := by
  have entry := s.ortStationLost_entry st
  have hawaits : ∀ g, (s.entry g).awaits st = true → ∃ k, (s.entry g).state = .awaiting k := fun g h =>
    (((s.entry g).awaits_iff st).mp h).1
  have hstation : (s.ortStationLost st).ctl.station = s.ctl.station := by rw [s.ortStationLost_ctl]
  have hretire : (s.ortStationLost st).completion.retire
      = s.completion.retire ++ s.ort.issueOrder.filter (fun g => (s.entry g).awaits st) := rfl
  have horder : (s.ortStationLost st).ort.issueOrder = s.ort.issueOrder := by
    simp only [State.ortStationLost]
  have hlists : OrtLists (s.ortStationLost st) := by
    refine ⟨by rw [horder]; exact law.orderNodup, fun g => ?_, ?_, ?_, fun g => ?_⟩
    · rw [entry, horder, law.ordered]
      split
      · next h =>
        obtain ⟨k, hk⟩ := hawaits g h
        simp [hk, OrtEntry.finish]
      · rfl
    · rw [s.ortStationLost_issue, law.unsent, horder]
      refine List.filter_congr fun g _ => ?_
      rw [entry]
      split
      · next h =>
        obtain ⟨k, hk⟩ := hawaits g h
        simp [OrtEntry.onUnsent, hk, OrtEntry.finish]
      · rfl
    · rw [hretire]
      refine law.retireNodup.append (law.orderNodup.filter _) fun g hg hmem => ?_
      obtain ⟨k, hk⟩ := hawaits g (List.mem_filter.mp hmem).2
      simp [(law.retired g).mp hg] at hk
    · rw [hretire, List.mem_append, List.mem_filter, entry, law.retired, law.ordered]
      split
      · next h =>
        obtain ⟨k, hk⟩ := hawaits g h
        simp [hk, h, OrtEntry.finish]
      · next h => simp [h]
  refine law.of_noFetch hlists (fun g => ?_) fun g => ?_
  · have kept := (law.entryLaw g).of_blocks (s.ortStationLost_port st) hstation
    rw [entry]
    split
    · next h =>
      obtain ⟨k, hk⟩ := hawaits g h
      refine .finish kept.counts (kept.not_granted (by simp [hk])) (fun hc => ?_) _
      have hfree := kept.clear hc
      simp [hk] at hfree
    · exact kept
  · rw [entry]
    split
    · nofun
    · exact id

end OrtLaw

/-- R66: a response changes the Target Engine alone. -/
theorem State.respond_eq (s : State) (e : ServiceEntry) (status : CplStatus) (swapped : Bool) (data : List Byte) :
    s.respond e status swapped data = { s with target := (s.respond e status swapped data).target } := by
  obtain ⟨t, k, -, -, h⟩ | ⟨-, h⟩ := s.respond_cases e status swapped data <;> rw [h]

/-- R60 to R65: what the end of a target operation can change. -/
theorem State.finishService_eq (s : State) (op : MemOp) (fault : Bool) :
    s.finishService op fault =
      { s with target := (s.finishService op fault).target, events := (s.finishService op fault).events } := by
  unfold State.finishService
  split
  · rfl
  · split
    · split <;> rfl
    · rw [State.respond_eq]; rfl
    · split <;> rw [State.respond_eq] <;> rfl
    · split <;> rw [State.respond_eq] <;> rfl

/-- R64: what the service of a notify entry can change. -/
theorem State.serveNotify_eq (s : State) (e : ServiceEntry) (offset : Nat) :
    s.serveNotify e offset =
      { s with
        target := (s.serveNotify e offset).target
        mailbox := (s.serveNotify e offset).mailbox
        events := (s.serveNotify e offset).events } := by
  unfold State.serveNotify
  rw [State.respond_eq]
  rfl

/-- R85, R107, R137: whose operation the arbiter chooses. -/
theorem State.arbiterChoice_requester {s : State} {op : MemOp} (h : s.arbiterChoice = some op) :
    op.requester = .target ∨ (∃ g, op.requester = .store g ∧ (s.entry g).state = .storing)
      ∨ ∃ g, op.requester = .fetch g ∧ (s.entry g).state = .fetching := by
  unfold State.arbiterChoice at h
  simp only [Option.orElse_eq_orElse, Option.orElse_eq_or, Option.or_eq_some_iff] at h
  obtain h | ⟨-, h | ⟨-, h⟩⟩ := h
  · unfold State.targetRequest at h
    split at h
    · cases h
    · split at h
      · cases h
      · cases h
        exact .inl rfl
  · obtain ⟨g, hg, rfl⟩ := Option.map_eq_some_iff.mp h
    have hs := List.find?_some hg
    simp only [Bool.and_eq_true, decide_eq_true_eq] at hs
    exact .inr (.inl ⟨g, rfl, hs.1⟩)
  · obtain ⟨g, hg, rfl⟩ := Option.map_eq_some_iff.mp h
    have hs := List.find?_some hg
    simp only [Bool.and_eq_true, decide_eq_true_eq] at hs
    exact .inr (.inr ⟨g, rfl, hs.1⟩)

namespace OrtLaw

variable {s t : State}

/-! ### Every entry FREE -/

/-- A step that leaves the ORT and its lists alone, with every entry FREE. -/
theorem of_allFree (law : OrtLaw s) (free : ∀ g, (s.entry g).state = .free) (ort : t.ort = s.ort)
    (unsent : t.issue.unsent = s.issue.unsent) (retire : t.completion.retire = s.completion.retire)
    (port : t.port = s.port) : OrtLaw t := by
  have entry : ∀ g, t.entry g = s.entry g := fun g => by rw [State.entry, State.entry, ort]
  refine law.of_noFetch (law.lists.of_eq ort unsent retire) (fun g => ?_) fun g h => entry g ▸ h
  have hentry := law.entryLaw g
  rw [entry]
  refine hentry.rest (.inl (free g)) ?_
  rw [State.granted_eq port]
  exact hentry.not_granted (by simp [free])

/-- The initiator side with nothing on its lists. -/
theorem of_empty (order : t.ort.issueOrder = []) (unsent : t.issue.unsent = []) (retire : t.completion.retire = [])
    (free : ∀ g, (t.entry g).state = .free) (entries : ∀ g, EntryLaw t g (t.entry g)) : OrtLaw t := by
  refine of_free ⟨by simp [order], fun g => ?_, by simp [order, unsent], by simp [retire], fun g => ?_⟩ free entries
  · simp [order, free]
  · simp [retire, free]

/-- R170: the initiator side at its pin-reset values. -/
theorem of_reset (ort : t.ort = State.reset.ort) (unsent : t.issue.unsent = [])
    (retire : t.completion.retire = []) (port : t.port = none) : OrtLaw t := by
  have entry : ∀ g, t.entry g = OrtEntry.blank := fun g => by
    rw [State.entry, ort]
    simp [State.reset]
  exact of_empty (by rw [ort]; rfl) unsent retire (fun g => by rw [entry]; rfl)
    fun g => entry g ▸ .blank (State.granted_of_idle port g)

/-- R116, R180: the end of draining, with the ORT at rest and the port idle. -/
theorem endDraining (law : OrtLaw s) (atRest : ∀ g, (s.entry g).state = .free ∨ ∃ k, (s.entry g).state = .stale k)
    (retire : s.completion.retire = []) (idle : s.port = none) : OrtLaw s.endDraining := by
  have hport : s.endDraining.port = none := by
    rw [State.endDraining, State.leaveTrunk_port, State.freeStale_port, idle]
  have hgranted := State.granted_of_idle hport
  have entry : ∀ g, s.endDraining.entry g = if (s.entry g).isStale then OrtEntry.blank else s.entry g := fun g => by
    rw [State.endDraining, State.leaveTrunk_entry, State.freeStale_entry]
  refine of_empty ?_ ?_ (by rw [State.endDraining, State.leaveTrunk_completion, State.freeStale_completion, retire])
    (fun g => ?_) fun g => ?_
  · rw [State.endDraining, State.leaveTrunk_ort]
    simp only [State.freeStale]
    refine List.filter_eq_nil_iff.mpr fun g hg => ?_
    obtain ⟨k, hk⟩ := (atRest g).resolve_left ((law.ordered g).mp hg)
    simp [OrtEntry.isStale, hk]
  · rw [State.endDraining, State.leaveTrunk_issue, State.freeStale_issue, law.unsent]
    refine List.filter_eq_nil_iff.mpr fun g _ => ?_
    obtain h | ⟨k, h⟩ := atRest g <;> simp [OrtEntry.onUnsent, h]
  · rw [entry]
    obtain h | ⟨k, h⟩ := atRest g <;> simp [OrtEntry.isStale, h, OrtEntry.blank]
  · rw [entry]
    obtain h | ⟨k, h⟩ := atRest g
    · simpa [OrtEntry.isStale, h] using (law.entryLaw g).rest (.inl h) (hgranted g)
    · simpa [OrtEntry.isStale, h] using EntryLaw.blank (hgranted g)

/-! ### The end of a memory operation -/

theorem runs_of_end {g : Tag} (ended : s.granted g = true) (port : t.port = none) {u : Tag} (hu : u ≠ g) :
    (t.runs (.fetch u) ↔ s.runs (.fetch u)) ∧ (t.runs (.store u) ↔ s.runs (.store u)) := by
  have hno : s.granted u = false := by
    rw [Bool.eq_false_iff, Ne, s.granted_iff]
    rw [s.granted_iff] at ended
    rintro (⟨op, hop, hr⟩ | ⟨op, hop, hr⟩) <;> obtain ⟨op', hop', hr'⟩ | ⟨op', hop', hr'⟩ := ended <;>
      simp_all
  obtain ⟨hfetch, hstore⟩ := (s.granted_false_iff u).mp hno
  exact ⟨iff_of_false (State.not_runs_of_idle port _) hfetch, iff_of_false (State.not_runs_of_idle port _) hstore⟩

/-- R108, R114: the entry whose operation ends enters DONE. -/
theorem doneAtEnd (law : OrtLaw s) {g : Tag} {e : OrtEntry} {st : Status} (ended : s.granted g = true)
    (entry : ∀ u, t.entry u = if u = g then e.finish st else s.entry u)
    (order : t.ort.issueOrder = s.ort.issueOrder)
    (unsent : t.issue.unsent = s.issue.unsent.filter (fun u => decide (u ≠ g)))
    (retire : t.completion.retire = s.completion.retire ++ [g]) (port : t.port = none)
    (station : t.ctl.station = s.ctl.station)
    (counts : e.busyRetries = (s.entry g).busyRetries ∧ e.corruptResends = (s.entry g).corruptResends) :
    OrtLaw t := by
  obtain ⟨hbusy, hcorrupt⟩ := counts
  have hstate : (s.entry g).state = .fetching ∨ (s.entry g).state = .storing :=
    ((s.granted_iff g).mp ended).imp (law.entryLaw g).fetch (law.entryLaw g).store
  have hlive : (s.entry g).state ≠ .free ∧ (s.entry g).state ≠ .done := by obtain h | h := hstate <;> simp [h]
  obtain ⟨hfree, hdone⟩ := hlive
  refine law.of_entry entry (law.lists.entered entry order unsent retire hfree hdone rfl) ?_ nofun station
    fun u => runs_of_end ended port
  refine .finish (by rw [hbusy, hcorrupt]; exact law.counts g) (State.granted_of_idle port g) (fun hc => ?_) st
  rw [State.ortClear, station] at hc
  exact hfree (law.clear hc g)

/-- R85, R114: a fetch ends. -/
theorem finishFetch (law : OrtLaw s) {g : Tag} {op : MemOp} (hop : s.port = some op) (hr : op.requester = .fetch g)
    (events : EventUnit) (op' : MemOp) (fault : Bool) :
    OrtLaw (({ s with port := none, events := events } : State).finishFetch g op' fault) := by
  have hruns : s.runs (.fetch g) := ⟨op, hop, hr⟩
  have hended : s.granted g = true := (s.granted_iff g).mpr (.inl hruns)
  have hstate : (s.entry g).state = .fetching := (law.entryLaw g).fetch hruns
  have entry := fun e st u => ({ s with port := none, events := events } : State).enterDone_entry g u e st
  unfold State.finishFetch
  dsimp only
  split
  case isFalse h => exact absurd hstate h
  split
  · exact law.doneAtEnd hended (entry _ _) rfl rfl rfl rfl rfl ⟨rfl, rfl⟩
  · next hmark =>
    split
    · exact law.doneAtEnd hended (entry _ _) rfl rfl rfl rfl rfl ⟨rfl, rfl⟩
    · have hunmarked : (s.entry g).endingMark = false := Bool.eq_false_iff.mpr hmark
      have hon : s.onTrunk = true := by
        by_contra hoff
        have h := law.offTrunk (Bool.eq_false_iff.mpr hoff) g
        simp [hstate, hunmarked] at h
      have entry := fun e u => ({ s with port := none, events := events } : State).setEntry_entry g u e
      refine law.of_entry (entry _) (law.lists.kept (entry _) rfl rfl rfl (by simp [hstate]) (by simp [hstate]) ?_)
        (.onWay hon (State.granted_of_idle rfl g) hunmarked nofun nofun nofun (law.counts g)) nofun rfl
        fun u => runs_of_end hended rfl
      change (!(s.entry g).endingMark) = (s.entry g).onUnsent
      rw [OrtEntry.onUnsent, hstate]

/-- R108, R114: a store ends. -/
theorem finishStore (law : OrtLaw s) {g : Tag} {op : MemOp} (hop : s.port = some op) (hr : op.requester = .store g)
    (events : EventUnit) (fault : Bool) :
    OrtLaw (({ s with port := none, events := events } : State).finishStore g fault) := by
  have hruns : s.runs (.store g) := ⟨op, hop, hr⟩
  have hended : s.granted g = true := (s.granted_iff g).mpr (.inr hruns)
  have hstate : (s.entry g).state = .storing := (law.entryLaw g).store hruns
  have entry := fun e st u => ({ s with port := none, events := events } : State).enterDone_entry g u e st
  unfold State.finishStore
  dsimp only
  split
  case isFalse h => exact absurd hstate h
  split
  · exact law.doneAtEnd hended (entry _ _) rfl rfl rfl rfl rfl ⟨rfl, rfl⟩
  · split <;> exact law.doneAtEnd hended (entry _ _) rfl rfl rfl rfl rfl ⟨rfl, rfl⟩

/-- R131, R134: an operation ends. -/
theorem endOperation (law : OrtLaw s) {op : MemOp} (hop : s.port = some op) {op' : MemOp}
    (hr : op'.requester = op.requester) (fault : Bool) : OrtLaw (s.endOperation op' fault) := by
  have hruns : ∀ r, r ≠ .target → op.requester = .target → ¬ s.runs r := by
    rintro r hne htarget ⟨op'', hop'', rfl⟩
    obtain rfl := Option.some.inj (hop''.symm.trans hop)
    exact hne htarget
  have released : op.requester = .target → ∀ t : State, t.ort = s.ort → t.issue = s.issue →
      t.completion = s.completion → t.port = none → t.ctl = s.ctl → OrtLaw t := by
    intro htarget t ort issue completion port ctl
    exact law.of_runs ort (by rw [issue]) (by rw [completion])
      (fun r hne => iff_of_false (State.not_runs_of_idle port r) (hruns r hne htarget))
      (State.onTrunk_eq (by rw [ctl])) fun hc => by rwa [State.ortClear, ctl] at hc
  unfold State.endOperation
  dsimp only
  split
  · next h =>
    have htarget : op.requester = .target := hr ▸ h
    split
    · exact released htarget _ rfl rfl rfl rfl rfl
    · rw [State.finishService_eq]
      exact released htarget _ rfl rfl rfl rfl rfl
  · next g h => exact law.finishFetch hop (hr ▸ h) _ _ fault
  · next g h => exact law.finishStore hop (hr ▸ h) _ fault

/-- R133: the next access of an operation begins, or its wait passes. -/
theorem portStays (law : OrtLaw s) {op op' : MemOp} (hop : s.port = some op) (hr : op'.requester = op.requester)
    (ort : t.ort = s.ort) (issue : t.issue = s.issue) (completion : t.completion = s.completion)
    (port : t.port = some op') (ctl : t.ctl = s.ctl) : OrtLaw t := by
  refine law.of_runs ort (by rw [issue]) (by rw [completion]) (fun r _ => ?_) (State.onTrunk_eq (by rw [ctl]))
    fun hc => by rwa [State.ortClear, ctl] at hc
  simp [State.runs, hop, port, hr]

theorem completeAccess (law : OrtLaw s) {op : MemOp} (hop : s.port = some op) (other : Option (BitVec 16)) :
    OrtLaw (s.completeAccess op other) := by
  obtain ⟨m, op', -, hop', ⟨-, h⟩ | ⟨-, h⟩⟩ := s.completeAccess_cases op other
  all_goals
    have hr : op'.requester = op.requester := by rw [hop']; rfl
    rw [h]
  · have accessed : OrtLaw { s with localMem := m } := law.of_eq rfl rfl rfl rfl rfl
    exact accessed.endOperation hop hr false
  · exact law.portStays (op' := { op' with wait := s.ctl.waitLimit.toNat }) hop hr rfl rfl rfl rfl rfl

/-- R85, R107, R137: the port grants a fetch or a store of an entry FETCHING or STORING. -/
theorem beginAccess (law : OrtLaw s) {op : MemOp} (idle : s.port = none) (choice : s.arbiterChoice = some op) :
    OrtLaw (s.beginAccess op) := by
  have hfetch : ∀ g, op.requester = .fetch g → (s.entry g).state = .fetching := by
    intro g hg
    obtain h | ⟨u, h, -⟩ | ⟨u, h, hu⟩ := State.arbiterChoice_requester choice <;> rw [hg] at h
    · cases h
    · cases h
    · exact Requester.fetch.inj h ▸ hu
  have hstore : ∀ g, op.requester = .store g → (s.entry g).state = .storing := by
    intro g hg
    obtain h | ⟨u, h, hu⟩ | ⟨u, h, -⟩ := State.arbiterChoice_requester choice <;> rw [hg] at h
    · cases h
    · exact Requester.store.inj h ▸ hu
    · cases h
  have entry : ∀ g, (s.beginAccess op).entry g = s.entry g := fun _ => rfl
  refine law.of_noFetch (law.lists.of_eq rfl rfl rfl) (fun g => ?_) fun g => id
  refine (law.entryLaw g).grant idle ?_ ?_ rfl
  · rintro ⟨op', hop, hr⟩
    cases hop
    exact hfetch g hr
  · rintro ⟨op', hop, hr⟩
    cases hop
    exact hstore g hr

end OrtLaw

/-- R71: whose operation it is stays. -/
@[simp] theorem MemOp.discardTarget_requester (op : MemOp) : op.discardTarget.requester = op.requester := by
  unfold MemOp.discardTarget
  split <;> rfl

/-- R15, R31, R59: everything a claim read back can do. -/
theorem State.readBack_cases (s : State) (mark : Mark) (out : SlotOutcome) :
    s.readBack mark out = s
      ∨ (∃ c, mark = .claim c ∧ out = .conflict ∧ s.readBack mark out = s.recordConflict c.window)
      ∨ ∃ c dest, mark = .claim c ∧ c.decision = .accept dest ∧ out = .accept s.ctl.number ∧ s.onTrunk = true
        ∧ s.readBack mark out = s.acceptRequest c dest := by
  cases mark with
  | claim c =>
    unfold State.readBack
    dsimp only
    split
    · exact .inr (.inl ⟨c, rfl, rfl, rfl⟩)
    · next n dest hd =>
      split
      · next h =>
        obtain ⟨rfl, hon⟩ := h
        exact .inr (.inr ⟨c, dest, rfl, hd, rfl, hon, rfl⟩)
      · exact .inl rfl
    · exact .inl rfl
  | none | corrupt | completion => exact .inl rfl

namespace OrtLaw

variable {s t : State}

/-! ### The trunk -/

/-- R94 to R99: the outcome of a request's slot. -/
theorem requestOutcome (law : OrtLaw s) (g : Tag) (out : SlotOutcome) : OrtLaw (s.requestOutcome g out) := by
  unfold State.requestOutcome
  dsimp only
  split
  case isFalse => exact law
  next hready =>
  have hlive : (s.entry g).state ≠ .free ∧ (s.entry g).state ≠ .done := by simp [hready]
  have hidle := (law.entryLaw g).not_granted (by simp [hready])
  have hon := (law.entryLaw g).onTrunk hlive.1 hlive.2 hidle
  have hunmarked := (law.entryLaw g).unmarked hidle
  have hcounts := law.counts g
  have ends : ∀ n st, OrtLaw (s.enterDone g { s.entry g with target := n } st) := fun n st =>
    law.enterDone st ⟨rfl, rfl⟩ hlive.1 hlive.2 hidle
  have hlist : ∀ e : OrtEntry, (e.state = .ready ∨ ∃ k, e.state = .hold k) →
      e.endingMark = (s.entry g).endingMark → e.onUnsent = (s.entry g).onUnsent := by
    rintro e (h | ⟨k, h⟩) hm <;> rw [OrtEntry.onUnsent, h, OrtEntry.onUnsent, hready, hm]
  split
  · next n =>
    have awaits : (s.entry g).op ≠ .write → OrtLaw { s.setEntry g
          { s.entry g with target := some n, state := .awaiting s.ctl.ct.toNat } with
        issue := { s.issue with unsent := s.issue.unsent.filter (fun u => decide (u ≠ g)) } } := by
      intro hop
      have entry := (s.setEntry_entry g · { s.entry g with target := some n, state := .awaiting s.ctl.ct.toNat })
      exact law.of_entry entry
        (law.lists.sent entry rfl rfl rfl (by simp [hready]) (by simp [hready]) rfl)
        (.onWay hon hidle hunmarked nofun (fun _ => ⟨rfl, hop⟩) nofun hcounts) nofun rfl fun u _ => runs_of_port rfl u
    split
    · exact ends _ _
    · exact awaits ‹_›
  · split
    · next hbusy =>
      exact law.setEntry hon hidle hunmarked hlive (by simp) (hlist _ (.inr ⟨_, rfl⟩) rfl) nofun nofun
        ⟨hbusy, hcounts.2⟩
    · exact ends _ _
  · exact ends _ _
  · split
    · next hcorrupt =>
      exact law.setEntry hon hidle hunmarked hlive (by simp [hready]) (hlist _ (.inl hready) rfl)
        (law.awaiting g) (law.storing g) ⟨hcounts.1, hcorrupt⟩
    · exact ends _ _
  · exact ends _ _
  · exact ends _ _

/-- R66, R68: the outcome of a completion's slot is no matter of the ORT. -/
theorem completionOutcome (law : OrtLaw s) (out : CompletionOutcome) : OrtLaw (s.completionOutcome out) := by
  unfold State.completionOutcome
  repeat' split
  all_goals exact law.of_eq rfl rfl rfl rfl rfl

theorem handOutcome (law : OrtLaw s) (sender : Option Origin) (out : SlotOutcome) :
    OrtLaw (s.handOutcome sender out) := by
  unfold State.handOutcome
  split
  · exact law
  · exact law.requestOutcome _ out
  · exact law.completionOutcome _
  · exact law

/-- R31: so is the claim read back. -/
theorem readBack (law : OrtLaw s) (mark : Mark) (out : SlotOutcome) : OrtLaw (s.readBack mark out) := by
  obtain h | ⟨c, -, -, h⟩ | ⟨c, dest, -, -, -, -, h⟩ := s.readBack_cases mark out <;> rw [h]
  · exact law
  · exact law.of_eq rfl rfl rfl rfl rfl
  · exact law.of_eq rfl rfl rfl rfl rfl

/-- R114, R182: entry to DETACHED. -/
theorem detach (law : OrtLaw s) (kind : FaultKind) : OrtLaw (s.detach kind) := by
  have hport : (s.detach kind).port = s.port.map MemOp.discardTarget := rfl
  refine law.ended rfl rfl rfl (fun r _ => ?_) rfl (by rintro (h | h) <;> cases h)
  simp [State.runs, hport]

/-- R114, R181: ABORT. -/
theorem abortStation (law : OrtLaw s) : OrtLaw s.abortStation := by
  have hdetached := law.detach .duplicateStation
  refine hdetached.of_runs rfl rfl rfl (fun r _ => .rfl) rfl ?_
  rintro (h | h) <;> cases h

/-- R103: a matched completion. -/
theorem matchedCompletion (law : OrtLaw s) (c : CplFrame) {k : Nat} (awaiting : (s.entry c.tag).state = .awaiting k) :
    OrtLaw (s.matchedCompletion c (s.entry c.tag)) := by
  have hlive : (s.entry c.tag).state ≠ .free ∧ (s.entry c.tag).state ≠ .done := by simp [awaiting]
  have hidle := (law.entryLaw c.tag).not_granted (by simp [awaiting])
  have ends : ∀ (e : OrtEntry) (st : Status), e.busyRetries = (s.entry c.tag).busyRetries
      ∧ e.corruptResends = (s.entry c.tag).corruptResends → OrtLaw (s.enterDone c.tag e st) := fun e st hcounts =>
    law.enterDone st hcounts hlive.1 hlive.2 hidle
  unfold State.matchedCompletion
  split
  · exact ends _ _ ⟨rfl, rfl⟩
  · split
    · next hread =>
      refine law.setEntry ((law.entryLaw c.tag).onTrunk hlive.1 hlive.2 hidle) hidle
        ((law.entryLaw c.tag).unmarked hidle) hlive (by simp) ?_ nofun (fun _ => hread) (law.counts c.tag)
      rw [OrtEntry.onUnsent, OrtEntry.onUnsent, awaiting]
    all_goals exact ends _ _ ⟨rfl, rfl⟩

/-- R101: a COMPLETION at the ORT. -/
theorem ortCompletion (law : OrtLaw s) (c : CplFrame) : OrtLaw (s.ortCompletion c) := by
  have counted : ∀ u : State, OrtLaw u → ∀ f, OrtLaw (u.onEvents f) := fun u h f => h.of_eq rfl rfl rfl rfl rfl
  unfold State.ortCompletion
  dsimp only
  split
  · exact counted s law _
  · split
    · next k hk =>
      split
      · split
        · exact law.matchedCompletion c hk
        · exact counted s law _
      · exact counted s law _
    · next k hk => exact counted _ (law.freeEntry hk) _
    · exact counted s law _

theorem handByKind (law : OrtLaw s) (f : Frame) (sender : Option Origin) : OrtLaw (s.handByKind f sender) := by
  unfold State.handByKind
  split
  · exact law.of_eq rfl rfl rfl rfl rfl
  · split
    · unfold State.decideClaim
      repeat' split
      all_goals exact law.of_eq rfl rfl rfl rfl rfl
    · exact law.of_eq rfl rfl rfl rfl rfl
  · split
    · exact (law.ortCompletion _).of_eq rfl rfl rfl rfl rfl
    · exact law.of_eq rfl rfl rfl rfl rfl

/-- R35: a duplicate. -/
theorem duplicate (law : OrtLaw s) (f : Frame) : OrtLaw (s.duplicate f) := by
  have hended : OrtLaw (s.afterFrame f none .none) := law.of_eq rfl rfl rfl rfl rfl
  unfold State.duplicate
  split
  · next hj => exact hended.of_allFree (law.clear (.inr hj)) rfl rfl rfl rfl
  · exact hended.detach _

/-- R25: a clean reception. -/
theorem receive (law : OrtLaw s) (f : Frame) (sender : Option Origin) : OrtLaw (s.receive f sender) := by
  have hpresence : OrtLaw (s.presenceHeard f.source) := by
    unfold State.presenceHeard
    split <;> exact law.of_eq rfl rfl rfl rfl rfl
  have haccess : OrtLaw ((s.presenceHeard f.source).accessHeard f.source) := hpresence.of_eq rfl rfl rfl rfl rfl
  unfold State.receive
  dsimp only
  split
  · exact hpresence.of_eq rfl rfl rfl rfl rfl
  · split
    · exact haccess.duplicate f
    · exact haccess.handByKind f sender

/-- R26: a corrupt reception. -/
theorem receiveCorrupt (law : OrtLaw s) (slotFollows : Bool) : OrtLaw (s.receiveCorrupt slotFollows) := by
  unfold State.receiveCorrupt
  dsimp only
  split <;> exact law.of_eq rfl rfl rfl rfl rfl

theorem frameReceived (law : OrtLaw s) {f : Frame}
    (h : t = s ∨ (s.receives = true ∧ (t = s.receive f none ∨ t = s.receiveCorrupt true))) : OrtLaw t := by
  obtain rfl | ⟨-, rfl | rfl⟩ := h
  exacts [law, law.receive f none, law.receiveCorrupt true]

/-! ### The rows -/

theorem hostStep (law : OrtLaw s) (h : HostStep s t) : OrtLaw t := by
  cases h with
  | frame h => exact law.of_eq h.ort h.unsent (by rw [h.completion]) h.port h.station
  | joined _ idle _ =>
    rw [State.joinBusy_iff, not_or] at idle
    refine law.of_allFree (fun g => ?_) rfl rfl rfl rfl
    by_contra hg
    exact idle.1 ⟨g, hg⟩
  | left station =>
    refine law.of_runs rfl rfl rfl (fun _ _ => .rfl) (by simp [State.onTrunk, station]) ?_
    rintro (h | h) <;> cases h
  | aborted _ count => exact law.abortStation.of_eq rfl rfl rfl rfl rfl

theorem execHostFrameEnd (law : OrtLaw s) (h : Machine.execHostFrameEnd s = .next t) : OrtLaw t := by
  obtain rfl | rfl | rfl | rfl | rfl | rfl := execHostFrameEnd_cases h
  · exact law
  · exact law.of_eq rfl rfl rfl rfl rfl
  · exact law.of_eq rfl rfl rfl rfl rfl
  · exact law.of_eq rfl rfl rfl rfl rfl
  · exact law.of_eq rfl rfl rfl rfl rfl
  · exact of_reset rfl rfl rfl rfl

/-- R175: the end of loading, with every entry FREE. -/
theorem endOfLoading (law : OrtLaw s) (hs : s.ctl.station = .loading) (eeprom : Option (List Byte))
    (straps : StationNo) : OrtLaw (s.endOfLoading eeprom straps) := by
  have free := law.clear (.inl hs)
  obtain ⟨f, -, h⟩ | ⟨-, h⟩ := s.endOfLoading_cases eeprom straps <;> rw [h]
  · exact law.of_allFree free rfl rfl rfl rfl
  · exact law.of_allFree free rfl rfl rfl rfl

theorem execOwnFrameSent (law : OrtLaw s) (h : Machine.execOwnFrameSent s = .next t) : OrtLaw t := by
  have silent : OrtLaw { s with tif := Tif.busyWith none } := law.of_eq rfl rfl rfl rfl rfl
  have sent : OrtLaw ({ s with tif := Tif.busyWith none } : State).ownTransmission := silent.of_eq rfl rfl rfl rfl rfl
  obtain rfl | ⟨tx, -, ⟨-, rfl⟩ | ⟨-, rfl⟩ | ⟨-, -, rfl⟩⟩ := execOwnFrameSent_cases h
  · exact law
  · exact sent.receive _ _
  · exact silent.receive _ _
  · exact silent.of_eq rfl rfl rfl rfl rfl

theorem execCollision (law : OrtLaw s) (h : Machine.execCollision s = .next t) : OrtLaw t := by
  have abandoned : OrtLaw s.abandoned := law.of_eq rfl rfl rfl rfl rfl
  have collided : ∀ n, OrtLaw (s.abandoned.collided n) := fun _ => abandoned.of_eq rfl rfl rfl rfl rfl
  obtain rfl | ⟨-, -, rfl⟩ | ⟨-, -, rfl⟩ := execCollision_cases h
  · exact law
  · by_cases hc : s.abandoned.access.collisions < 3
    · rw [State.accessCollision_counted hc]
      exact collided _
    · rw [State.accessCollision_limit (Nat.not_lt.mp hc)]
      exact (collided _).detach _
  · exact abandoned

theorem execSlotEnd {cells : SlotCells} (law : OrtLaw s) (h : Machine.execSlotEnd cells s = .next t) : OrtLaw t := by
  obtain rfl | ⟨e, u, -, -, rfl, rfl⟩ := execSlotEnd_cases h
  · exact law
  · have hread := (law.readBack e.mark cells.resolve).handOutcome e.sender cells.resolve
    exact hread.of_eq rfl rfl rfl rfl rfl

theorem execContentionSlot {slot : Fin 48} (law : OrtLaw s) (h : Machine.execContentionSlot slot s = .next t) :
    OrtLaw t := by
  obtain rfl | ⟨-, -, rfl⟩ := execContentionSlot_cases slot s t h
  · exact law
  · obtain ⟨tx, -, -, h⟩ | h := s.beginSlot_cases slot <;> rw [h] <;> exact law.of_eq rfl rfl rfl rfl rfl

theorem execPresenceTimeout {st : StationNo} (law : OrtLaw s) (h : Machine.execPresenceTimeout st s = .next t) :
    OrtLaw t := by
  obtain rfl | ⟨-, -, rfl⟩ := execPresenceTimeout_cases h
  · exact law
  · have lost : OrtLaw (s.presenceLost st) := law.of_eq rfl rfl rfl rfl rfl
    have removed := lost.ortStationLost st
    rw [State.targetStationLost_eq]
    exact removed.of_eq rfl rfl rfl rfl rfl

theorem execIssue (law : OrtLaw s) (h : Machine.execIssue s = .next t) : OrtLaw t := by
  obtain rfl | ⟨d, rest, g, -, hfree, hmay, rfl⟩ := execIssue_cases h
  · exact law
  · obtain ⟨hon, -, hfetch⟩ := (s.mayIssue_iff d).mp hmay
    exact law.issueInto rest (s.onTrunk_iff.mpr (.inl hon)) ((s.lowestFree_iff g).mp hfree).1
      fun h => hfetch ((Op.fetches_iff d.op).mp h)

/-- R116, R180: the end of draining, with every entry FREE or STALE. -/
theorem execEndOfDraining (law : OrtLaw s) (h : Machine.execEndOfDraining s = .next t) : OrtLaw t := by
  obtain rfl | ⟨-, hd, rfl⟩ := execEndOfDraining_cases h
  · exact law
  · obtain ⟨hrest, hretire, -, -, hport, -⟩ := s.drained_iff.mp hd
    exact law.endDraining hrest hretire hport

end OrtLaw

/-- R90 to R93: every command keeps the laws of the initiator side. -/
theorem OrtLaw.exec {i : Instr} {s t : State} (law : OrtLaw s) (h : Machine.exec i s = .next t) : OrtLaw t := by
  cases i
  case pinReset => cases h; exact .of_reset rfl rfl rfl rfl
  case resetRelease =>
    obtain rfl | rfl := execResetRelease_cases h
    exacts [law, law.of_eq rfl rfl rfl rfl rfl]
  case endOfLoading eeprom straps =>
    obtain rfl | ⟨-, hs, rfl⟩ := execEndOfLoading_cases h
    exacts [law, law.endOfLoading hs eeprom straps]
  case hostFrameStart =>
    obtain rfl | rfl := execHostFrameStart_cases h
    exacts [law, law.of_eq rfl rfl rfl rfl rfl]
  case hostFrameEnd => exact law.execHostFrameEnd h
  case contentionSlot slot => exact law.execContentionSlot h
  case roundOpen =>
    obtain rfl | ⟨-, -, rfl⟩ := execRoundOpen_cases s t h
    exacts [law, law.of_eq rfl rfl rfl rfl rfl]
  case slotBegin =>
    obtain rfl | ⟨e, -, -, rfl⟩ := execSlotBegin_cases h
    exacts [law, law.of_eq rfl rfl rfl rfl rfl]
  case slotEnd cells => exact law.execSlotEnd h
  case ownFrameSent => exact law.execOwnFrameSent h
  case collision => exact law.execCollision h
  case requestFrameReceived f => exact law.frameReceived (execFrameReceived_cases (.inl ⟨f, rfl, rfl⟩) h)
  case completionFrameReceived f => exact law.frameReceived (execFrameReceived_cases (.inr ⟨f, rfl, rfl⟩) h)
  case beaconReceived src =>
    obtain rfl | ⟨-, rfl⟩ := execBeaconReceived_cases h
    exacts [law, law.receive _ _]
  case corruptReception slotFollows =>
    obtain rfl | ⟨-, rfl⟩ := execCorruptReception_cases h
    exacts [law, law.receiveCorrupt _]
  case presenceTimeout st => exact law.execPresenceTimeout h
  case beaconTimerExpiry =>
    obtain rfl | ⟨-, rfl⟩ := execBeaconTimerExpiry_cases h
    exacts [law, law.of_eq rfl rfl rfl rfl rfl]
  case joinHoldoffExpiry =>
    obtain rfl | ⟨hj, -, rfl⟩ := execJoinHoldoffExpiry_cases h
    exacts [law, law.of_allFree (law.clear (.inr hj)) rfl rfl rfl rfl]
  case holdoffExpiry g =>
    obtain rfl | ⟨hhold, rfl⟩ := execHoldoffExpiry_cases h
    exacts [law, law.holdoffExpired hhold]
  case completionTimeout g =>
    obtain rfl | ⟨hawait, rfl⟩ := execCompletionTimeout_cases h
    · exact law
    · exact law.enterDone _ ⟨rfl, rfl⟩ (by simp [hawait]) (by simp [hawait])
        ((law.entryLaw g).not_granted (by simp [hawait]))
  case quarantineExpiry g =>
    obtain rfl | ⟨hstale, rfl⟩ := execQuarantineExpiry_cases h
    exacts [law, law.freeEntry hstale]
  case lifetimeExpiry place =>
    obtain ⟨i, rfl | rfl⟩ := execLifetimeExpiry_cases h
    · obtain h | ⟨e, -, -, h⟩ := s.expireService_cases i <;> rw [h]
      exacts [law, law.of_eq rfl rfl rfl rfl rfl]
    · obtain h | ⟨r, -, -, h⟩ := s.expireResponse_cases i <;> rw [h]
      exacts [law, law.of_eq rfl rfl rfl rfl rfl]
  case issue => exact law.execIssue h
  case placeRecord =>
    obtain rfl | ⟨g, rest, st, hretire, -, -, rfl⟩ := execPlaceRecord_cases h
    exacts [law, law.placeRecord hretire st]
  case memoryGrant =>
    obtain rfl | ⟨op, idle, -, hchoice, rfl⟩ := execMemoryGrant_cases s t h
    exacts [law, law.beginAccess idle hchoice]
  case wordAccessComplete other =>
    obtain rfl | ⟨op, hop, -, rfl⟩ := execWordAccessComplete_cases h
    exacts [law, law.completeAccess hop other]
  case waitTimerExpiry =>
    obtain rfl | ⟨op, hop, -, rfl⟩ := execWaitTimerExpiry_cases s t h
    exacts [law, law.endOperation hop rfl true]
  case notifyService =>
    obtain rfl | ⟨e, rest, offset, -, -, rfl⟩ := execNotifyService_cases h
    · exact law
    · rw [State.serveNotify_eq]
      exact law.of_eq rfl rfl rfl rfl rfl
  case endOfDraining => exact law.execEndOfDraining h
  case hintPulseEnd => cases h; exact law.of_eq rfl rfl rfl rfl rfl
  case startDelimiterSeen =>
    obtain rfl | ⟨-, -, rfl⟩ := execStartDelimiterSeen_cases h
    exacts [law, law.of_eq rfl rfl rfl rfl rfl]
  case hostByteComplete b => exact law.hostStep (.execHostByteComplete h)
  all_goals exact law.hostStep (.exec_hostRow rfl h)

/-- Settles O54: an idle step and every command keep the laws of the initiator side. -/
theorem ortLawKept : Obligations.OrtLawKept := by
  intro s t law hstep
  unfold step at hstep
  split at hstep
  · cases hstep
    obtain ⟨h, -⟩ | ⟨op, hop, -, h⟩ := s.idle_cases <;> rw [h]
    · exact law.tick
    · exact law.portStays (op' := { op with wait := 0 }) hop rfl rfl rfl rfl rfl rfl
  · next i rest _ => exact OrtLaw.exec (law.withPending rest) hstep

end Sys2Proof.Machine
end

section
/-! PROOFS. Chapter 11 (the Station Controller): a station held by RESET# ignores every command (O5). -/

namespace Sys2Proof.Machine

/-! ### A held station -/

namespace StationLaw

variable {s : State}

/-- R170: the blocks of a held station. -/
theorem heldTif (law : StationLaw s) (h : s.held = true) : s.tif = Tif.busyWith none :=
  (congrArg State.tif (law.held h) :)
theorem heldStation (law : StationLaw s) (h : s.held = true) : s.ctl.station = .loading :=
  (congrArg (fun u : State => u.ctl.station) (law.held h) :)
theorem heldTarget (law : StationLaw s) (h : s.held = true) : s.target = State.reset.target :=
  (congrArg State.target (law.held h) :)
theorem heldOrt (law : StationLaw s) (h : s.held = true) : s.ort = State.reset.ort :=
  (congrArg State.ort (law.held h) :)
theorem heldIssue (law : StationLaw s) (h : s.held = true) : s.issue = State.reset.issue :=
  (congrArg State.issue (law.held h) :)
theorem heldCompletion (law : StationLaw s) (h : s.held = true) : s.completion = State.reset.completion :=
  (congrArg State.completion (law.held h) :)
theorem heldPresence (law : StationLaw s) (h : s.held = true) : s.presence = State.reset.presence :=
  (congrArg State.presence (law.held h) :)
theorem heldPort (law : StationLaw s) (h : s.held = true) : s.port = none := (congrArg State.port (law.held h) :)
theorem heldEvents (law : StationLaw s) (h : s.held = true) : s.events = EventUnit.reset none :=
  (congrArg State.events (law.held h) :)
theorem heldDecoder (law : StationLaw s) (h : s.held = true) : s.host.decoder = .idle :=
  (congrArg (fun u : State => u.host.decoder) (law.held h) :)

theorem heldEntry (law : StationLaw s) (h : s.held = true) (g : Tag) : s.entry g = OrtEntry.blank := by
  rw [State.entry, law.heldOrt h]
  simp [State.reset]

theorem heldAbsent (law : StationLaw s) (h : s.held = true) (n : StationNo) : s.presence.table[n] = .absent := by
  rw [law.heldPresence h]
  simp [State.reset]

/-- R170: while RESET# is asserted no command but PIN_RESET, RESET_RELEASE and the edges of HSEL# changes anything. -/
theorem exec_held (law : StationLaw s) (h : s.held = true) {i : Instr} (hreset : i ≠ .pinReset)
    (hrelease : i ≠ .resetRelease) (hstart : i ≠ .hostFrameStart) (hend : i ≠ .hostFrameEnd) : exec i s = .next s := by
  have hstation := law.heldStation h
  have htif := law.heldTif h
  have hport := law.heldPort h
  have hreceiver : s.receiverOn = false := by simp [State.receiverOn, State.onTrunk, hstation]
  have hhears : s.hearsFrame = false := by simp [State.hearsFrame, hreceiver]
  have hreceives : s.receives = false := by simp [State.receives, hhears]
  cases i
  case pinReset | resetRelease | hostFrameStart | hostFrameEnd => contradiction
  case endOfLoading eeprom straps =>
    change execEndOfLoading eeprom straps s = _
    simp [execEndOfLoading, State.unlessHeld, h]
  case hostByteComplete b =>
    change execHostByteComplete b s = _
    simp [execHostByteComplete, State.unlessHeld, h]
  case contentionSlot slot =>
    change execContentionSlot slot s = _
    simp [execContentionSlot, htif, Tif.busyWith]
  case roundOpen =>
    change execRoundOpen s = _
    simp [execRoundOpen, State.countsSlots, hreceiver]
  case slotBegin =>
    change execSlotBegin s = _
    simp [execSlotBegin, htif, Tif.busyWith]
  case slotEnd cells =>
    change execSlotEnd cells s = _
    simp [execSlotEnd, htif, Tif.busyWith]
  case ownFrameSent =>
    change execOwnFrameSent s = _
    simp [execOwnFrameSent, htif, Tif.busyWith]
  case collision =>
    change execCollision s = _
    simp [execCollision, htif, Tif.busyWith]
  case requestFrameReceived f =>
    change execRequestFrameReceived f s = _
    simp [execRequestFrameReceived, hreceives]
  case completionFrameReceived f =>
    change execCompletionFrameReceived f s = _
    simp [execCompletionFrameReceived, hreceives]
  case beaconReceived src =>
    change execBeaconReceived src s = _
    simp [execBeaconReceived, hhears]
  case corruptReception slotFollows =>
    change execCorruptReception slotFollows s = _
    simp [execCorruptReception, hhears]
  case presenceTimeout st =>
    change execPresenceTimeout st s = _
    simp only [execPresenceTimeout, law.heldAbsent h]
  case beaconTimerExpiry =>
    change execBeaconTimerExpiry s = _
    simp [execBeaconTimerExpiry, law.heldPresence h, State.reset]
  case joinHoldoffExpiry =>
    change execJoinHoldoffExpiry s = _
    simp [execJoinHoldoffExpiry, hstation]
  case holdoffExpiry g =>
    change execHoldoffExpiry g s = _
    simp [execHoldoffExpiry, law.heldEntry h, OrtEntry.blank]
  case completionTimeout g =>
    change execCompletionTimeout g s = _
    simp [execCompletionTimeout, law.heldEntry h, OrtEntry.blank]
  case quarantineExpiry g =>
    change execQuarantineExpiry g s = _
    simp [execQuarantineExpiry, law.heldEntry h, OrtEntry.blank]
  case lifetimeExpiry place =>
    change execLifetimeExpiry place s = _
    cases place <;>
      simp [execLifetimeExpiry, State.expireService, State.expireResponse, law.heldTarget h, State.reset]
  case issue =>
    change execIssue s = _
    simp [execIssue, law.heldIssue h, State.reset]
  case placeRecord =>
    change execPlaceRecord s = _
    simp [execPlaceRecord, law.heldCompletion h, State.reset]
  case memoryGrant =>
    change execMemoryGrant s = _
    simp [execMemoryGrant, State.arbiterChoice, State.targetRequest, State.storeRequest, State.fetchRequest,
      hport, law.heldTarget h, law.heldOrt h, State.reset]
  case wordAccessComplete other =>
    change execWordAccessComplete other s = _
    simp [execWordAccessComplete, hport]
  case waitTimerExpiry =>
    change execWaitTimerExpiry s = _
    simp [execWaitTimerExpiry, hport]
  case notifyService =>
    change execNotifyService s = _
    simp [execNotifyService, law.heldTarget h, State.reset]
  case endOfDraining =>
    change execEndOfDraining s = _
    simp [execEndOfDraining, hstation]
  case hintPulseEnd =>
    have hpulsing : s.events.pulsing = false := by rw [law.heldEvents h]; rfl
    change execHintPulseEnd s = _
    rw [execHintPulseEnd, ← hpulsing]
  case startDelimiterSeen =>
    change execStartDelimiterSeen s = _
    simp [execStartDelimiterSeen, hreceiver]
  all_goals
    rw [exec_hostRow rfl]
    simp [State.takes, h]

end StationLaw

/-- Settles O5. -/
theorem heldStationIgnoresCommands : Obligations.HeldStationIgnoresCommands := by
  intro i s law h
  refine ⟨by simp [State.hintAsserted, h], ?_, law.exec_held h⟩
  simp [State.hdo, HostPort.out, law.heldDecoder h]

end Sys2Proof.Machine
end

section
/-! PROOFS. Chapter 1 (windows): the JOIN checks (O23). -/

namespace Sys2Proof.Machine

/-! ### The conditions of a window (R16) -/

/-- R16: window `i` fails the condition that has this reason. -/
def windowFails (ws : Vector Window 8) (i : WindowIdx) (reason : JoinReason) : Prop :=
  (ws[i]).config.enabled = true ∧
    (match reason with
    | .baseAlign => (ws[i]).config.trunkBase.toNat % 256 ≠ 0
    | .length => ¬ ((ws[i]).config.length.toNat % 256 = 0 ∧ 256 ≤ (ws[i]).config.length.toNat
        ∧ (ws[i]).config.length.toNat ≤ 262144)
    | .trunkRange => 4294967296 < (ws[i]).config.trunkBase.toNat + (ws[i]).config.length.toNat
    | .localRange => (ws[i]).config.kind = .memory ∧
        ¬ ((ws[i]).config.localBase.toNat % 256 = 0
          ∧ (ws[i]).config.localBase.toNat + (ws[i]).config.length.toNat ≤ 262144)
    | .overlap => ∃ j : WindowIdx, j < i ∧ (ws[j]).config.enabled = true
        ∧ (ws[j]).config.trunkBase.toNat < (ws[i]).config.trunkBase.toNat + (ws[i]).config.length.toNat
        ∧ (ws[i]).config.trunkBase.toNat < (ws[j]).config.trunkBase.toNat + (ws[j]).config.length.toNat
    | .ctRange => False)

theorem overlapsLower_iff (ws : Vector Window 8) (i : WindowIdx) :
    overlapsLower ws i = true ↔ ∃ j : WindowIdx, j < i ∧ (ws[j]).config.enabled = true
      ∧ (ws[j]).config.trunkBase.toNat < (ws[i]).config.trunkBase.toNat + (ws[i]).config.length.toNat
      ∧ (ws[i]).config.trunkBase.toNat < (ws[j]).config.trunkBase.toNat + (ws[j]).config.length.toNat := by
  simp only [overlapsLower, WindowConfig.overlaps, List.any_eq_true, Bool.and_eq_true, decide_eq_true_eq,
    mem_allWindows, true_and, and_assoc]
  rfl

/-- What holds of every reason holds of each of the six. -/
theorem JoinReason.forall_iff (p : JoinReason → Prop) :
    (∀ r, p r) ↔ p .baseAlign ∧ p .length ∧ p .trunkRange ∧ p .localRange ∧ p .overlap ∧ p .ctRange :=
  ⟨fun h => ⟨h _, h _, h _, h _, h _, h _⟩, fun ⟨h1, h2, h3, h4, h5, h6⟩ r => by cases r <;> assumption⟩

theorem not_windowFails_ctRange (ws : Vector Window 8) (i : WindowIdx) : ¬ windowFails ws i .ctRange := And.right

open Classical in
/-- R16: the conditions are tried in the order base, length, trunk range, local range, overlap. -/
theorem windowFault_eq (ws : Vector Window 8) (i : WindowIdx) :
    windowFault ws i =
      if windowFails ws i .baseAlign then some .baseAlign
      else if windowFails ws i .length then some .length
      else if windowFails ws i .trunkRange then some .trunkRange
      else if windowFails ws i .localRange then some .localRange
      else if windowFails ws i .overlap then some .overlap
      else none := by
  by_cases he : (ws[i]).config.enabled = true
  · simp only [windowFault, windowFails, he, overlapsLower_iff, WindowConfig.trunkEnd, trunkSpaceSize, localMemorySize,
      Nat.not_le, true_and, if_neg, Bool.true_eq_false, not_false_eq_true, ne_eq]
  · simp [windowFault, windowFails, he, -Fin.getElem_fin]

/-- R16: the fault of a window is the first condition in the order that it fails. -/
theorem windowFault_some_iff (ws : Vector Window 8) (i : WindowIdx) (reason : JoinReason) :
    windowFault ws i = some reason ↔
      windowFails ws i reason ∧ ∀ r : JoinReason, r.code < reason.code → ¬ windowFails ws i r := by
  rw [windowFault_eq]
  constructor
  · intro h
    split_ifs at h with h1 h2 h3 h4 h5
    all_goals
      cases h
      refine ⟨by assumption, ?_⟩
      simp [JoinReason.forall_iff, JoinReason.code, *]
  · rintro ⟨hf, hlow⟩
    cases reason with
    | baseAlign => rw [if_pos hf]
    | length => rw [if_neg (hlow .baseAlign (by decide)), if_pos hf]
    | trunkRange => rw [if_neg (hlow .baseAlign (by decide)), if_neg (hlow .length (by decide)), if_pos hf]
    | localRange =>
      rw [if_neg (hlow .baseAlign (by decide)), if_neg (hlow .length (by decide)),
        if_neg (hlow .trunkRange (by decide)), if_pos hf]
    | overlap =>
      rw [if_neg (hlow .baseAlign (by decide)), if_neg (hlow .length (by decide)),
        if_neg (hlow .trunkRange (by decide)), if_neg (hlow .localRange (by decide)), if_pos hf]
    | ctRange => exact absurd hf (not_windowFails_ctRange ws i)

theorem windowFault_none_iff (ws : Vector Window 8) (i : WindowIdx) :
    windowFault ws i = none ↔ ∀ r, ¬ windowFails ws i r := by
  rw [windowFault_eq]
  constructor
  · intro h
    split_ifs at h with h1 h2 h3 h4 h5
    exact (JoinReason.forall_iff _).mpr ⟨h1, h2, h3, h4, h5, not_windowFails_ctRange ws i⟩
  · intro h
    simp only [h, if_false]

/-! ### The windows in index order (R17), and CT (R166) -/

theorem tableFault_none_iff (ws : Vector Window 8) : tableFault ws = none ↔ ∀ i r, ¬ windowFails ws i r := by
  simp [tableFault, mem_allWindows, windowFault_none_iff]

/-- R17: the fault found is that of the first window that has one. -/
theorem tableFault_some_iff (ws : Vector Window 8) (reason : JoinReason) (i : WindowIdx) :
    tableFault ws = some (reason, i) ↔ windowFault ws i = some reason ∧ ∀ j < i, ∀ r, ¬ windowFails ws j r := by
  have hl : allWindows = List.finRange 8 := by decide
  have sorted : ∀ a b, allWindows = a ++ i :: b → ∀ j, j ∈ a ↔ j < i := by
    intro a b h j
    have hp := List.pairwise_append.mp (h ▸ hl ▸ List.pairwise_lt_finRange 8)
    obtain ⟨-, hright, hleft⟩ := hp
    refine ⟨fun hj => hleft j hj i (by simp), fun hj => ?_⟩
    have hmem : j ∈ a ++ i :: b := h ▸ mem_allWindows j
    refine (List.mem_append.mp hmem).resolve_right fun hb => ?_
    obtain rfl | hb := List.mem_cons.mp hb
    · exact absurd hj (lt_irrefl j)
    · exact absurd hj (lt_asymm ((List.pairwise_cons.mp hright).1 j hb))
  simp only [tableFault, ← windowFault_none_iff]
  rw [List.findSome?_eq_some_iff]
  constructor
  · rintro ⟨a, j, b, hab, hj, hbefore⟩
    obtain ⟨r, hr, hpair⟩ := Option.map_eq_some_iff.mp hj
    cases hpair
    exact ⟨hr, fun k hk => Option.map_eq_none_iff.mp (hbefore k ((sorted a b hab k).mpr hk))⟩
  · rintro ⟨hr, hbefore⟩
    obtain ⟨a, b, hab⟩ := List.append_of_mem (mem_allWindows i)
    exact ⟨a, i, b, hab, by rw [hr]; rfl, fun k hk =>
      Option.map_eq_none_iff.mpr (hbefore k ((sorted a b hab k).mp hk))⟩

/-- R17, R166: the checks find nothing when every window is valid and CT lies in its range. -/
theorem joinFault_none_iff (ws : Vector Window 8) (ct : BitVec 12) :
    joinFault ws ct = none ↔ (∀ i r, ¬ windowFails ws i r) ∧ 640 ≤ ct.toNat ∧ ct.toNat ≤ 4095 := by
  rw [← tableFault_none_iff, joinFault]
  rcases tableFault ws with _ | ⟨r, i⟩
  · by_cases h : 640 ≤ ct.toNat ∧ ct.toNat ≤ 4095
    · exact iff_of_true (if_pos h) ⟨rfl, h⟩
    · exact iff_of_false (fun hn => Option.some_ne_none _ ((if_neg h).symm.trans hn)) fun hn => h hn.2
  · simp

theorem joinFault_window_iff (ws : Vector Window 8) (ct : BitVec 12) (r : JoinReason) (i : WindowIdx) :
    joinFault ws ct = some (r, some i) ↔ tableFault ws = some (r, i) := by
  rw [joinFault]
  rcases tableFault ws with _ | ⟨r', i'⟩
  · dsimp only
    split <;> simp
  · simp

theorem joinFault_ct_iff (ws : Vector Window 8) (ct : BitVec 12) (r : JoinReason) :
    joinFault ws ct = some (r, none) ↔
      r = .ctRange ∧ (∀ i r, ¬ windowFails ws i r) ∧ ¬ (640 ≤ ct.toNat ∧ ct.toNat ≤ 4095) := by
  rw [← tableFault_none_iff, joinFault]
  rcases tableFault ws with _ | ⟨r', i'⟩
  · dsimp only
    split
    · next h => simpa [ctMin, ctMax] using fun _ => h
    · next h => simpa [ctMin, ctMax, eq_comm] using fun _ => h
  · simp

/-- Settles O23. -/
theorem joinChecksInOrder : Obligations.JoinChecksInOrder := by
  intro ws ct
  refine ⟨joinFault_none_iff ws ct, fun r i => ?_, joinFault_ct_iff ws ct⟩
  rw [joinFault_window_iff, tableFault_some_iff, windowFault_some_iff, and_assoc]
  rfl

end Sys2Proof.Machine
end

section
/-! PROOFS. Chapters 1 to 3, 9 and 11: the laws of the Trunk Interface, the Presence Monitor, the Access Unit, the
window table and the Event Unit are kept by every step (O55). -/

namespace Sys2Proof.Machine

/-! ### The station state -/

/-- R28: a station in this state transmits and drives marks. -/
def StationState.transmits (x : StationState) : Bool := decide (x = .online) || decide (x = .draining)

/-- R23: the receiver of a station in this state is on. -/
def StationState.listens (x : StationState) : Bool :=
  decide (x = .joining) || x.transmits || decide (x = .detached)

theorem State.onTrunk_eq_transmits (s : State) : s.onTrunk = s.ctl.station.transmits := rfl

theorem State.receiverOn_eq_listens (s : State) : s.receiverOn = s.ctl.station.listens := rfl

theorem StationState.listens_of_transmits {x : StationState} (h : x.transmits = true) : x.listens = true := by
  simp [StationState.listens, h]

theorem StationState.not_loading_of_listens {x : StationState} (h : x.listens = true) : x ≠ .loading ∧ x ≠ .config := by
  constructor <;> rintro rfl <;> cases h

/-! ### The Trunk Interface (R22 to R24, R28, R37) -/

/-- What the laws ask of the Trunk Interface of a station in this state. -/
structure TifLaw (x : StationState) (t : Tif) : Prop where
  quiet : x = .loading ∨ x = .joining → t.tx = none ∧ t.uninvolved = true
  wire : t.tx ≠ none → t = Tif.busyWith t.tx
  incoming : t.incoming = true → x.listens = true ∧ t.trunk = .busy
  corruptNext : t.corruptNext = true → t.exchange ≠ none ∧ x.transmits = true
  round : ∀ next, t.trunk = .idle next → next ≤ 48 ∧ x.listens = true ∧ t.exchange = none

theorem Tif.uninvolved_iff (t : Tif) :
    t.uninvolved = true ↔ t.corruptNext = false ∧ ∀ e, t.exchange = some e → e.uninvolved = true := by
  unfold Tif.uninvolved
  cases t.exchange <;> simp

namespace TifLaw

variable {x y : StationState} {t : Tif}

/-- R22: the trunk busy, and an own frame or nothing on the wire. -/
theorem busyWith {tx : Option Transmission} (h : x = .loading ∨ x = .joining → tx = none) :
    TifLaw x (Tif.busyWith tx) where
  quiet hx := ⟨h hx, rfl⟩
  wire _ := rfl
  incoming := nofun
  corruptNext := nofun
  round := nofun

/-- R24: with a slot of an exchange still to end no own frame is on the wire. -/
theorem tx_none (law : TifLaw x t) {e : Exchange} (he : t.exchange = some e) : t.tx = none := by
  by_contra hne
  rw [law.wire hne] at he
  cases he

/-- R37: with a slot of an exchange still to end no round is open. -/
theorem trunk_busy (law : TifLaw x t) {e : Exchange} (he : t.exchange = some e) : t.trunk = .busy := by
  cases htrunk : t.trunk with
  | busy => rfl
  | idle next =>
    obtain ⟨-, -, hnone⟩ := law.round next htrunk
    simp [he] at hnone

/-- The station state changes, and the Trunk Interface stays as it is. -/
theorem stationChange (law : TifLaw x t) (quiet : y ≠ .loading ∧ y ≠ .joining)
    (listens : x.listens = true → y.listens = true) (transmits : x.transmits = true → y.transmits = true) :
    TifLaw y t where
  quiet h := absurd h (not_or.mpr quiet)
  wire := law.wire
  incoming h := (law.incoming h).imp_left listens
  corruptNext h := (law.corruptNext h).imp_right transmits
  round next h := by
    obtain ⟨hnext, hon, hnone⟩ := law.round next h
    exact ⟨hnext, listens hon, hnone⟩

/-- The marks that a station in this state may decide for a slot. -/
def slotLawful (x : StationState) (e : Exchange) : Prop :=
  (x = .loading ∨ x = .joining → e.uninvolved = true) ∧ (e.mark = .corrupt → x.transmits = true)

/-- R22: a frame has ended with no own frame on the wire. -/
theorem frameEnded (law : TifLaw x t) (tx : t.tx = none) {slot : Option Exchange}
    (lawful : ∀ e, slot = some e → slotLawful x e) : TifLaw x (t.frameEnded slot) := by
  unfold Tif.frameEnded
  split
  · next hun =>
    obtain ⟨hcorrupt, -⟩ := t.uninvolved_iff.mp hun
    exact
      { quiet := fun hx => ⟨tx, (Tif.uninvolved_iff _).mpr ⟨hcorrupt, fun e he => (lawful e he).1 hx⟩⟩
        wire := fun h => absurd tx h
        incoming := nofun
        corruptNext := fun h => by simp [hcorrupt] at h
        round := nofun }
  · next hin =>
    have hquiet : ¬ (x = .loading ∨ x = .joining) := fun hx => hin (law.quiet hx).2
    refine ⟨fun hx => absurd hx hquiet, fun h => absurd tx h, nofun, fun h => ?_, nofun⟩
    have hexchange : t.exchange ≠ none := by
      intro hnone
      by_cases hcorrupt : t.corruptNext = true
      · exact (law.corruptNext hcorrupt).1 hnone
      · exact hin (t.uninvolved_iff.mpr ⟨Bool.eq_false_iff.mpr hcorrupt, by simp [hnone]⟩)
    refine ⟨hexchange, ?_⟩
    obtain h | h := Bool.or_eq_true_iff.mp h
    · exact (law.corruptNext h).2
    · obtain ⟨e, he, hm⟩ := (Option.any_eq_true _ _).mp h
      exact (lawful e he).2 (of_decide_eq_true hm)

/-- R29: a slot ends. -/
theorem slotEnded (law : TifLaw x t) {e : Exchange} (he : t.exchange = some e) (number : StationNo) :
    TifLaw x (t.slotEnded number) := by
  have htx := law.tx_none he
  have hbusy := law.trunk_busy he
  unfold Tif.slotEnded
  refine ⟨fun hx => ⟨htx, ?_⟩, fun h => absurd htx h, law.incoming, nofun, fun next h => by simp [hbusy] at h⟩
  obtain ⟨hcorrupt, -⟩ := t.uninvolved_iff.mp (law.quiet hx).2
  simp [Tif.uninvolved_iff, hcorrupt]

/-- R30: a slot begins, and the marks decided are driven on the trunk alone. -/
theorem slotBegun (law : TifLaw x t) {e : Exchange} (he : t.exchange = some e) {m : Mark}
    (mark : m = e.mark ∨ m = .none) : TifLaw x { t with exchange := some { e with mark := m, begun := true } } := by
  have htx := law.tx_none he
  have hbusy := law.trunk_busy he
  refine ⟨fun hx => ⟨htx, ?_⟩, fun h => absurd htx h, law.incoming, fun h => ⟨nofun, (law.corruptNext h).2⟩,
    fun next h => by simp [hbusy] at h⟩
  obtain ⟨hcorrupt, hun⟩ := t.uninvolved_iff.mp (law.quiet hx).2
  have hsilent := hun e he
  refine (Tif.uninvolved_iff _).mpr ⟨hcorrupt, fun e' he' => ?_⟩
  cases he'
  obtain rfl | rfl := mark <;> simp_all [Exchange.uninvolved]

/-- R37: a round opens, or its next slot is counted. -/
theorem counted (law : TifLaw x t) (tx : t.tx = none) (exchange : t.exchange = none) (incoming : t.incoming = false)
    (on : x.listens = true) {next : Nat} (h : next ≤ 48) : TifLaw x { t with trunk := .idle next } where
  quiet := law.quiet
  wire h := absurd tx h
  incoming h := by simp [incoming] at h
  corruptNext := law.corruptNext
  round next' h' := by
    cases h'
    exact ⟨h, on, exchange⟩

/-- R23: the start delimiter of another station's frame is seen. -/
theorem delimiterSeen (law : TifLaw x t) (tx : t.tx = none) (on : x.listens = true) :
    TifLaw x { t with incoming := true, trunk := .busy } where
  quiet := law.quiet
  wire h := absurd tx h
  incoming _ := ⟨on, rfl⟩
  corruptNext := law.corruptNext
  round := nofun

/-- R30: marks that have not begun are dropped. -/
theorem unbegunDropped (law : TifLaw x t) (quiet : y ≠ .loading ∧ y ≠ .joining)
    (listens : x.listens = true → y.listens = true) (f : Exchange → Exchange) :
    TifLaw y { t with exchange := t.exchange.map f, corruptNext := false } where
  quiet h := absurd h (not_or.mpr quiet)
  wire h := by
    have hwire := law.wire h
    rw [hwire]
    rfl
  incoming h := (law.incoming h).imp_left listens
  corruptNext := nofun
  round next h := by
    obtain ⟨hnext, hon, hnone⟩ := law.round next h
    exact ⟨hnext, listens hon, by simp [hnone]⟩

/-- R23: the receiver goes off. -/
theorem left (law : TifLaw x t) {exchange : Option Exchange} (h : t.exchange = none → exchange = none) :
    TifLaw .config { t with exchange := exchange, corruptNext := false, incoming := false, trunk := .busy } where
  quiet := by rintro (h | h) <;> cases h
  wire htx := by
    have hnone : t.exchange = none := by rw [law.wire htx]; rfl
    simp [h hnone, Tif.busyWith]
  incoming := nofun
  corruptNext := nofun
  round := nofun

end TifLaw

/-! ### The Event Unit (R142, R149, R172) -/

/-- What the laws ask of the Event Unit of a station in this state. -/
structure EventsLaw (x : StationState) (e : EventUnit) : Prop where
  threshold : 1 ≤ e.threshold ∧ e.threshold ≤ 32
  pulse : e.lineMode = .level → e.pulsing = false
  masked : x = .loading → e.mask = Categories.all ∧ e.pulsing = false

/-- R149: a step of the Event Unit that keeps its settings, and drives a pulse only in PULSE mode for a category not
masked. -/
structure EventStep (e f : EventUnit) : Prop where
  threshold : f.threshold = e.threshold
  lineMode : f.lineMode = e.lineMode
  mask : f.mask = e.mask
  pulsing : f.pulsing = true → e.pulsing = true ∨ (e.lineMode = .pulse ∧ e.mask ≠ Categories.all)

namespace EventStep

theorem refl (e : EventUnit) : EventStep e e := ⟨rfl, rfl, rfl, .inl⟩

/-- A step that drives no pulse. -/
theorem of_pulsing_eq {e f : EventUnit} (threshold : f.threshold = e.threshold) (lineMode : f.lineMode = e.lineMode)
    (mask : f.mask = e.mask) (pulsing : f.pulsing = e.pulsing) : EventStep e f :=
  ⟨threshold, lineMode, mask, fun h => .inl (pulsing ▸ h)⟩

/-- R149: a category that becomes pending. -/
theorem of_pulseOnGain {e f : EventUnit} {masked wasPending : Bool} (threshold : f.threshold = e.threshold)
    (lineMode : f.lineMode = e.lineMode) (mask : f.mask = e.mask)
    (pulsing : f.pulsing = e.pulseOnGain masked wasPending) (hmask : e.mask = Categories.all → masked = true) :
    EventStep e f := by
  refine ⟨threshold, lineMode, mask, fun h => ?_⟩
  rw [pulsing, EventUnit.pulseOnGain, Bool.or_eq_true, Bool.and_eq_true, Bool.and_eq_true] at h
  refine h.imp_right fun ⟨⟨hmode, hm⟩, _⟩ => ⟨of_decide_eq_true hmode, fun hall => ?_⟩
  simp [hmask hall] at hm

theorem raiseTrunk (e : EventUnit) (c : TrunkCause) : EventStep e (e.raiseTrunk c) :=
  .of_pulseOnGain rfl rfl rfl rfl fun h => by rw [h]; rfl

theorem raiseFault (e : EventUnit) (c : FaultCause) (r : FaultRecord) : EventStep e (e.raiseFault c r) :=
  .of_pulseOnGain rfl rfl rfl rfl fun h => by rw [h]; rfl

theorem pendNotify (e : EventUnit) : EventStep e e.pendNotify :=
  .of_pulseOnGain rfl rfl rfl rfl fun h => by rw [h]; rfl

theorem recordPlaced (e : EventUnit) (count : Nat) (urgent : Bool) : EventStep e (e.recordPlaced count urgent) := by
  unfold EventUnit.recordPlaced
  split
  · exact .of_pulseOnGain rfl rfl rfl rfl fun h => by rw [h]; rfl
  · exact .refl e

/-- R69: dropped responses are counted, and raise RESPONSE_DROPPED. -/
theorem responsesDropped (e : EventUnit) (k : Nat) : EventStep e (e.responsesDropped k) := by
  unfold EventUnit.responsesDropped
  split
  · exact .refl e
  · exact .of_pulseOnGain rfl rfl rfl rfl fun h => by rw [h]; rfl

end EventStep

namespace EventsLaw

variable {x y : StationState} {e f : EventUnit}

theorem step (law : EventsLaw x e) (h : EventStep e f) : EventsLaw x f where
  threshold := by rw [h.threshold]; exact law.threshold
  pulse hmode := by
    rw [h.lineMode] at hmode
    refine Bool.eq_false_iff.mpr fun hp => ?_
    obtain hp | ⟨hp, -⟩ := h.pulsing hp
    · simp [law.pulse hmode] at hp
    · simp [hmode] at hp
  masked hx := by
    obtain ⟨hmask, hpulsing⟩ := law.masked hx
    refine ⟨h.mask.trans hmask, Bool.eq_false_iff.mpr fun hp => ?_⟩
    obtain hp | ⟨-, hp⟩ := h.pulsing hp
    · simp [hpulsing] at hp
    · exact hp hmask

theorem raiseTrunk (law : EventsLaw x e) (c : TrunkCause) : EventsLaw x (e.raiseTrunk c) := law.step (.raiseTrunk e c)
theorem raiseFault (law : EventsLaw x e) (c : FaultCause) (r : FaultRecord) : EventsLaw x (e.raiseFault c r) :=
  law.step (.raiseFault e c r)
theorem responsesDropped (law : EventsLaw x e) (k : Nat) : EventsLaw x (e.responsesDropped k) :=
  law.step (.responsesDropped e k)

/-- A counter of the Event Unit is no matter of its settings. -/
theorem counted (law : EventsLaw x e) (c : Counters) : EventsLaw x { e with counters := c } :=
  law.step (.of_pulsing_eq rfl rfl rfl rfl)

theorem stationChange (law : EventsLaw x e) (h : y ≠ .loading) : EventsLaw y e :=
  ⟨law.threshold, law.pulse, fun hy => absurd hy h⟩

end EventsLaw

/-! ### The Presence Monitor (R44 to R47) -/

/-- What the laws ask of the Presence Monitor of a station in this state, with this number. -/
structure PresenceLaw (x : StationState) (number : StationNo) (p : PresenceMonitor) : Prop where
  self : x ≠ .loading → ∀ n : StationNo, p.table[n] = .self ↔ n = number
  deaf : x = .config → ∀ n : StationNo, n ≠ number → p.table[n] = .absent
  beacon : p.beaconTimer ≠ .stopped ↔ x.transmits = true
  queued : p.beaconQueued = true → x.transmits = true

theorem presenceCleared_self (own n : StationNo) : (presenceCleared own)[n] = .self ↔ n = own := by
  by_cases h : n = own <;> simp [presenceCleared, h]

theorem presenceCleared_absent {own n : StationNo} (h : n ≠ own) : (presenceCleared own)[n] = .absent := by
  simp [presenceCleared, h]

namespace PresenceLaw

variable {x y : StationState} {number : StationNo} {p q : PresenceMonitor}

/-- R46, R48: the entry of a station that is not SELF changes, in a state with the receiver on. -/
theorem setOther (law : PresenceLaw x number p) (on : x.listens = true) {st : StationNo} {v : Presence}
    (other : p.table[st] ≠ .self) (value : v ≠ .self) :
    PresenceLaw x number { p with table := p.table.set st.val v st.isLt } where
  self hx n := by
    by_cases h : n = st
    · subst h
      simpa [value, ← law.self hx n] using other
    · have hne : st.val ≠ n.val := fun hv => h (Fin.ext hv.symm)
      simpa [hne] using law.self hx n
  deaf hx := absurd hx (StationState.not_loading_of_listens on).2
  beacon := law.beacon
  queued := law.queued

/-- R44, R45: on the trunk the beacon timer restarts, or stays expired. -/
theorem setBeacon (law : PresenceLaw x number p) (on : x.transmits = true) {timer : BeaconTimer}
    (running : timer ≠ .stopped) (queued : Bool) :
    PresenceLaw x number { p with beaconTimer := timer, beaconQueued := queued } where
  self := law.self
  deaf := law.deaf
  beacon := iff_of_true running on
  queued _ := on

theorem stationChange (law : PresenceLaw x number p) (loading : x ≠ .loading) (config : y ≠ .config)
    (transmits : x.transmits = y.transmits) : PresenceLaw y number p where
  self _ := law.self loading
  deaf h := absurd h config
  beacon := transmits ▸ law.beacon
  queued h := transmits ▸ law.queued h

/-- R182: the beacon is stopped off the trunk. -/
theorem stopped (law : PresenceLaw x number p) (loading : x ≠ .loading) (config : y ≠ .config)
    (off : y.transmits = false) : PresenceLaw y number { p with beaconTimer := .stopped, beaconQueued := false } where
  self _ := law.self loading
  deaf h := absurd h config
  beacon := iff_of_false (not_not.mpr rfl) (by simp [off])
  queued := nofun

/-- R46: the table cleared, with the beacon stopped. -/
theorem cleared (off : y.transmits = false) (timer : q.beaconTimer = .stopped) (queued : q.beaconQueued = false)
    (table : q.table = presenceCleared number) : PresenceLaw y number q where
  self _ n := by rw [table]; exact presenceCleared_self number n
  deaf _ n h := by rw [table]; exact presenceCleared_absent h
  beacon := iff_of_false (not_not.mpr timer) (by simp [off])
  queued h := by simp [queued] at h

theorem tick (law : PresenceLaw x number p) :
    PresenceLaw x number { p with table := p.table.map Presence.tick, beaconTimer := p.beaconTimer.tick } where
  self hx n := by
    rw [← law.self hx n]
    simp only [Fin.getElem_fin, Vector.getElem_map]
    cases p.table[n.val] <;> simp [Presence.tick]
  deaf hx n hn := by
    have h := law.deaf hx n hn
    simp only [Fin.getElem_fin, Vector.getElem_map] at h ⊢
    rw [h]
    rfl
  beacon := by
    rw [← law.beacon]
    cases p.beaconTimer <;> simp [BeaconTimer.tick]
  queued := law.queued

/-- R47, R165: in CONFIG the own number changes, and its SELF entry with it. -/
theorem setNumber (law : PresenceLaw .config number p) (n : StationNo) :
    PresenceLaw .config n
      { p with table := (p.table.set number.val .absent number.isLt).set n.val .self n.isLt } where
  self _ m := by
    by_cases h : m = n
    · subst h; simp
    · have hne : n.val ≠ m.val := fun hv => h (Fin.ext hv.symm)
      by_cases hold : m = number
      · subst hold; simp [h, hne]
      · have hne' : number.val ≠ m.val := fun hv => hold (Fin.ext hv.symm)
        have habsent := law.deaf rfl m hold
        simp only [Fin.getElem_fin] at habsent
        simp [h, hne, hne', habsent]
  deaf _ m h := by
    have hne : n.val ≠ m.val := fun hv => h (Fin.ext hv.symm)
    by_cases hold : m = number
    · subst hold; simp [hne]
    · have hne' : number.val ≠ m.val := fun hv => hold (Fin.ext hv.symm)
      simpa [hne, hne'] using law.deaf rfl m hold
  beacon := law.beacon
  queued := law.queued

end PresenceLaw

/-! ### The window table (R16) -/

/-- R16: the law of a window table and CT that have passed the JOIN checks. -/
def LawfulTable (ws : Vector Window 8) (ct : BitVec 12) : Prop :=
  (∀ i j : WindowIdx, i ≠ j → (ws[i]).config.enabled = true → (ws[j]).config.enabled = true →
      ∀ a, ¬ ((ws[i]).config.holds a ∧ (ws[j]).config.holds a))
    ∧ (∀ i : WindowIdx, (ws[i]).config.enabled = true → (ws[i]).config.kind = .memory →
        (ws[i]).config.localBase.toNat + (ws[i]).config.length.toNat ≤ 262144)
    ∧ 640 ≤ ct.toNat ∧ ct.toNat ≤ 4095

theorem State.tableLawful_iff (s : State) : s.tableLawful ↔ LawfulTable s.windows s.ctl.ct := Iff.rfl

/-- R166: what the JOIN checks establish. -/
theorem lawfulTable_of_joinFault {ws : Vector Window 8} {ct : BitVec 12} (h : joinFault ws ct = none) :
    LawfulTable ws ct := by
  obtain ⟨hvalid, hct⟩ := (joinFault_none_iff ws ct).mp h
  have hlower : ∀ i j : WindowIdx, j < i → (ws[i]).config.enabled = true → (ws[j]).config.enabled = true →
      ∀ a, ¬ ((ws[i]).config.holds a ∧ (ws[j]).config.holds a) := by
    rintro i j hlt hi hj a ⟨⟨hi1, hi2⟩, hj1, hj2⟩
    exact hvalid i .overlap ⟨hi, j, hlt, hj, lt_of_le_of_lt hj1 hi2, lt_of_le_of_lt hi1 hj2⟩
  refine ⟨fun i j hne hi hj a ha => ?_, fun i hi hk => ?_, hct⟩
  · obtain hlt | hlt := lt_or_gt_of_ne hne
    · exact hlower j i hlt hj hi a ha.symm
    · exact hlower i j hlt hi hj a ha
  · by_contra hlong
    exact hvalid i .localRange ⟨hi, hk, fun h => hlong h.2⟩

/-- The counts of the windows are no matter of the table law. -/
theorem LawfulTable.of_config {ws ws' : Vector Window 8} {ct : BitVec 12} (law : LawfulTable ws ct)
    (config : ∀ i : WindowIdx, (ws'[i]).config = (ws[i]).config) : LawfulTable ws' ct := by
  unfold LawfulTable
  simp only [config]
  exact law

theorem clearWindowCounts_config (ws : Vector Window 8) (i : WindowIdx) :
    ((clearWindowCounts ws)[i]).config = (ws[i]).config := by
  simp [clearWindowCounts, Window.fresh]

/-- A window changed in its counts alone. -/
theorem set_window_config (ws : Vector Window 8) (w : WindowIdx) {v : Window} (h : v.config = (ws[w]).config)
    (i : WindowIdx) : ((ws.set w.val v w.isLt)[i]).config = (ws[i]).config := by
  by_cases hi : i = w
  · subst hi
    simpa using h
  · have hne : w.val ≠ i.val := fun hv => hi (Fin.ext hv.symm)
    simp [hne]

/-! ### The laws of a station that is not held -/

/-- The laws of the other blocks, block by block, of a station that is not held. -/
structure RunLaw (s : State) : Prop where
  held : s.held = false
  presence : PresenceLaw s.ctl.station s.ctl.number s.presence
  table : s.ctl.station ≠ .loading → s.ctl.station ≠ .config → LawfulTable s.windows s.ctl.ct
  waitLimit : 1 ≤ s.ctl.waitLimit.toNat ∧ s.ctl.waitLimit.toNat ≤ 15
  holdoff : s.ctl.joinHoldoff.isSome = true ↔ s.ctl.station = .joining
  collisions : s.access.collisions ≤ 4 ∧ (s.access.collisions = 4 → s.ctl.station = .detached)
  queues : s.issue.requestQueue.length ≤ 32 ∧ s.completion.queue.length ≤ 32
  events : EventsLaw s.ctl.station s.events
  tif : TifLaw s.ctl.station s.tif
  memory : Memory.wf s.localMem = true

theorem StationLaw.run {s : State} (law : StationLaw s) (held : s.held = false) : RunLaw s :=
  { law with
    held := held
    presence := ⟨law.self, law.deaf, law.beacon, law.queued⟩
    events := ⟨law.threshold, law.pulse, law.masked⟩
    tif := ⟨fun h => s.tifQuiet_iff.mp (law.quiet h), law.wire, law.incoming, law.corruptNext, law.round⟩ }

theorem RunLaw.stationLaw {s : State} (law : RunLaw s) : StationLaw s :=
  { law with
    held := fun h => by simp [law.held] at h
    self := law.presence.self
    deaf := law.presence.deaf
    beacon := law.presence.beacon
    queued := law.presence.queued
    threshold := law.events.threshold
    pulse := law.events.pulse
    masked := law.events.masked
    quiet := fun h => s.tifQuiet_iff.mpr (law.tif.quiet h)
    wire := law.tif.wire
    incoming := law.tif.incoming
    corruptNext := law.tif.corruptNext
    round := law.tif.round }

namespace RunLaw

variable {s t : State}

theorem onEvents (law : RunLaw s) {f : EventUnit → EventUnit} (h : EventsLaw s.ctl.station (f s.events)) :
    RunLaw (s.onEvents f) :=
  { law with events := h }

theorem withTif (law : RunLaw s) {u : Tif} (h : TifLaw s.ctl.station u) : RunLaw { s with tif := u } :=
  { law with tif := h }

/-! ### Changes of station state -/

/-- R23, R36, R46: the station leaves the trunk for CONFIG. -/
theorem leaveTrunk (law : RunLaw s) : RunLaw s.leaveTrunk :=
  { law with
    presence := .cleared rfl rfl rfl rfl
    table := fun _ h => absurd rfl h
    holdoff := by simp
    collisions := ⟨Nat.zero_le _, nofun⟩
    events := law.events.stationChange nofun
    tif := law.tif.left fun h => by rw [h]; rfl }

/-- R182: entry to DETACHED, from ONLINE or DRAINING; the count of collisions may be 4 there. -/
theorem detach (law : RunLaw s) (on : s.onTrunk = true) {u : State} {n : Nat}
    (hu : u = { s with access := { s.access with collisions := n } }) (hn : n ≤ 4) (kind : FaultKind) :
    RunLaw (u.detach kind) := by
  subst hu
  have hlistens : s.ctl.station.listens = true := StationState.listens_of_transmits on
  obtain ⟨hloading, hconfig⟩ := StationState.not_loading_of_listens hlistens
  have hjoining : s.ctl.station ≠ .joining := by rintro h; simp [State.onTrunk, h] at on
  have tif : TifLaw .detached (s.detach kind).tif :=
    law.tif.unbegunDropped (y := .detached) ⟨nofun, nofun⟩ (fun _ => rfl) _
  exact
    { law with
      presence := law.presence.stopped hloading nofun rfl
      table := fun _ _ => law.table hloading hconfig
      holdoff := iff_of_false (fun h => hjoining (law.holdoff.mp h)) nofun
      collisions := ⟨hn, fun _ => rfl⟩
      events := (law.events.raiseFault _ _).stationChange nofun
      tif := tif }

/-- R181: ABORT. -/
theorem abortStation (law : RunLaw s) : RunLaw s.abortStation :=
  { law.leaveTrunk with
    queues := ⟨Nat.zero_le _, law.queues.2⟩
    tif := law.tif.left fun h => by
      change Option.filter _ (s.tif.exchange.map _) = none
      rw [h]
      rfl }

/-- R177: entry to JOINING, the JOIN checks passed. -/
theorem enterJoining (held : s.held = false)
    (presence : PresenceLaw .joining s.ctl.number s.presence) (valid : LawfulTable s.windows s.ctl.ct)
    (waitLimit : 1 ≤ s.ctl.waitLimit.toNat ∧ s.ctl.waitLimit.toNat ≤ 15)
    (queues : s.issue.requestQueue.length ≤ 32 ∧ s.completion.queue.length ≤ 32)
    (events : EventsLaw .joining s.events) (silent : s.tif.tx = none) (memory : Memory.wf s.localMem = true) :
    RunLaw s.enterJoining where
  held := held
  presence := presence
  table _ _ := valid.of_config (clearWindowCounts_config s.windows)
  waitLimit := waitLimit
  holdoff := iff_of_true rfl rfl
  collisions := ⟨Nat.zero_le _, nofun⟩
  queues := queues
  events := events
  tif := .busyWith fun _ => silent
  memory := memory

/-! ### Receptions -/

/-- R48: the Presence Monitor hears a frame. -/
theorem presenceHeard (law : RunLaw s) (on : s.receiverOn = true) (src : StationNo) : RunLaw (s.presenceHeard src) := by
  unfold State.presenceHeard
  split
  · exact law
  · next k hk => exact { law with presence := law.presence.setOther on (by simp [hk]) nofun }
  · next hk =>
    exact { law with
      presence := law.presence.setOther on (by simp [hk]) nofun
      events := law.events.raiseTrunk _ }

theorem accessHeard (law : RunLaw s) (src : StationNo) : RunLaw (s.accessHeard src) := { law with }

theorem loseSync (law : RunLaw s) : RunLaw s.loseSync := by
  unfold State.loseSync
  refine { law with events := ?_ }
  dsimp only
  split
  · exact law.events.raiseTrunk _
  · exact law.events

/-- R22: a frame has ended, with no own frame on the wire. -/
theorem afterFrame (law : RunLaw s) (tx : s.tif.tx = none) (f : Frame) {sender : Option Origin} {mark : Mark}
    (quiet : s.ctl.station = .loading ∨ s.ctl.station = .joining → sender = none ∧ mark = .none)
    (corrupt : mark ≠ .corrupt) : RunLaw (s.afterFrame f sender mark) := by
  refine law.withTif (law.tif.frameEnded tx fun e he => ?_)
  have hslot : e = ⟨sender, mark, false, s.ctl.number⟩ := by cases f <;> cases he <;> rfl
  subst hslot
  refine ⟨fun hx => ?_, fun h => absurd h corrupt⟩
  obtain ⟨rfl, rfl⟩ := quiet hx
  rfl

/-- R56: a refusal is recorded, and the claim decided. -/
theorem decideClaim (law : RunLaw s) (r : ReqFrame) : RunLaw (s.decideClaim r).1 := by
  unfold State.decideClaim
  split
  · exact law
  · next w reason _ =>
    exact { law with
      table := fun h1 h2 => (law.table h1 h2).of_config (set_window_config _ w rfl)
      events := law.events.counted _ }
  · split
    · exact law.onEvents (law.events.counted _)
    · exact law

theorem decideClaim_mark (s : State) (r : ReqFrame) : (s.decideClaim r).2 ≠ .corrupt := by
  unfold State.decideClaim
  repeat' split
  all_goals nofun

theorem decideClaim_ctl (s : State) (r : ReqFrame) : (s.decideClaim r).1.ctl = s.ctl := by
  unfold State.decideClaim
  repeat' split
  all_goals rfl

theorem decideClaim_tif (s : State) (r : ReqFrame) : (s.decideClaim r).1.tif = s.tif := by
  unfold State.decideClaim
  repeat' split
  all_goals rfl

/-! ### The entries of the ORT -/

theorem setEntry (law : RunLaw s) (g : Tag) (e : OrtEntry) : RunLaw (s.setEntry g e) := { law with }
theorem enterDone (law : RunLaw s) (g : Tag) (e : OrtEntry) (st : Status) : RunLaw (s.enterDone g e st) := { law with }
theorem freeEntry (law : RunLaw s) (g : Tag) : RunLaw (s.freeEntry g) := { law with }

/-- R101: the ORT changes at a COMPLETION, and a late or malformed one is counted. -/
theorem ortCompletion (law : RunLaw s) (c : CplFrame) : RunLaw (s.ortCompletion c) := by
  have matched : RunLaw (s.matchedCompletion c (s.entry c.tag)) := by
    unfold State.matchedCompletion
    split
    · exact law.enterDone _ _ _
    · split
      · exact law.setEntry _ _
      all_goals exact law.enterDone _ _ _
  unfold State.ortCompletion
  dsimp only
  split
  · exact law.onEvents (law.events.counted _)
  · split
    · split
      · split
        · exact matched
        · exact law.onEvents (law.events.counted _)
      · exact law.onEvents (law.events.counted _)
    · exact (law.freeEntry _).onEvents (law.events.counted _)
    · exact law.onEvents (law.events.counted _)

theorem ortCompletion_keeps (s : State) (c : CplFrame) :
    (s.ortCompletion c).ctl = s.ctl ∧ (s.ortCompletion c).tif = s.tif := by
  unfold State.ortCompletion State.matchedCompletion
  dsimp only
  repeat' split
  all_goals exact ⟨rfl, rfl⟩

/-- R25: the frame's own part. -/
theorem handByKind (law : RunLaw s) (tx : s.tif.tx = none) (f : Frame) {sender : Option Origin}
    (quiet : s.ctl.station = .loading ∨ s.ctl.station = .joining → sender = none) : RunLaw (s.handByKind f sender) := by
  unfold State.handByKind
  split
  · exact law.afterFrame tx _ (fun hx => ⟨quiet hx, rfl⟩) nofun
  · next r =>
    split
    · next honline =>
      refine (law.decideClaim r).afterFrame (by rw [decideClaim_tif, tx]) _ (fun hx => ?_) (decideClaim_mark s r)
      rw [decideClaim_ctl, honline] at hx
      rcases hx with h | h <;> cases h
    · exact law.afterFrame tx _ (fun hx => ⟨quiet hx, rfl⟩) nofun
  · next c =>
    split
    · obtain ⟨hctl, htif⟩ := ortCompletion_keeps s c
      refine (law.ortCompletion c).afterFrame (by rw [htif, tx]) _ (fun hx => ?_) (by split <;> nofun)
      rw [hctl] at hx
      have hoff : ¬ s.onTrunk = true := by rcases hx with h | h <;> simp [State.onTrunk, h]
      exact ⟨quiet hx, if_neg hoff⟩
    · exact law.afterFrame tx _ (fun hx => ⟨quiet hx, rfl⟩) nofun

/-- R35: a duplicate, at a station that is not DETACHED. -/
theorem duplicate (law : RunLaw s) (on : s.receiverOn = true) (attached : s.ctl.station ≠ .detached)
    (tx : s.tif.tx = none) (f : Frame) : RunLaw (s.duplicate f) := by
  have hended : RunLaw (s.afterFrame f none .none) := law.afterFrame tx f (fun _ => ⟨rfl, rfl⟩) nofun
  unfold State.duplicate
  split
  · exact leaveTrunk (hended.onEvents (hended.events.raiseFault _ _))
  · next hj =>
    have htrunk : (s.afterFrame f none .none).onTrunk = true := by
      have h := on
      simp only [State.receiverOn, hj, attached, decide_false, Bool.false_or, Bool.or_false] at h
      exact h
    have hcount := hended.collisions.1
    exact hended.detach htrunk rfl hcount _

/-- R25: a clean reception. -/
theorem receive (law : RunLaw s) (on : s.receiverOn = true) (tx : s.tif.tx = none) (f : Frame) {sender : Option Origin}
    (quiet : s.ctl.station = .joining → sender = none) : RunLaw (s.receive f sender) := by
  have hpresence := law.presenceHeard on f.source
  have haccess := hpresence.accessHeard f.source
  obtain ⟨hctl, htif⟩ : (s.presenceHeard f.source).ctl = s.ctl ∧ (s.presenceHeard f.source).tif = s.tif := by
    unfold State.presenceHeard
    split <;> exact ⟨rfl, rfl⟩
  have hquiet : s.ctl.station = .loading ∨ s.ctl.station = .joining → sender = none := fun hx =>
    quiet (hx.resolve_left (StationState.not_loading_of_listens on).1)
  unfold State.receive
  dsimp only
  split
  · next hd =>
    refine hpresence.afterFrame (by rw [htif, tx]) f (fun hx => ?_) nofun
    rw [hctl, hd] at hx
    rcases hx with h | h <;> cases h
  · next hd =>
    have haccess_on : ((s.presenceHeard f.source).accessHeard f.source).receiverOn = true := by
      rw [State.receiverOn_eq_listens] at on ⊢
      exact (congrArg (fun c : Controller => c.station.listens) hctl).trans on
    split
    · exact haccess.duplicate haccess_on (by rw [State.accessHeard_ctl, hctl]; exact hd)
        (by rw [State.accessHeard_tif, htif, tx]) f
    · exact haccess.handByKind (by rw [State.accessHeard_tif, htif, tx]) f
        (by rw [State.accessHeard_ctl, hctl]; exact hquiet)

/-- R26: a corrupt reception. -/
theorem receiveCorrupt (law : RunLaw s) (tx : s.tif.tx = none) (slotFollows : Bool) :
    RunLaw (s.receiveCorrupt slotFollows) := by
  have hslot : ∀ e, (if slotFollows then
        some (⟨none, if s.onTrunk then .corrupt else .none, false, s.ctl.number⟩ : Exchange) else none) = some e →
      TifLaw.slotLawful s.ctl.station e := by
    intro e he
    split at he
    · cases he
      by_cases hon : s.onTrunk = true
      · refine ⟨fun hx => ?_, fun _ => hon⟩
        rcases hx with h | h <;> simp [State.onTrunk, h] at hon
      · rw [if_neg hon]
        exact ⟨fun _ => rfl, nofun⟩
    · cases he
  have hcounted := law.onEvents (f := EventUnit.countCorruptFrame) (law.events.counted _)
  unfold State.receiveCorrupt
  dsimp only
  split
  · exact hcounted.withTif (law.tif.frameEnded tx hslot)
  · exact hcounted.loseSync.withTif (law.tif.frameEnded tx hslot)

theorem frameReceived (law : RunLaw s) {f : Frame}
    (h : t = s ∨ (s.receives = true ∧ (t = s.receive f none ∨ t = s.receiveCorrupt true))) : RunLaw t := by
  obtain rfl | ⟨hr, h⟩ := h
  · exact law
  · obtain ⟨on, tx, -⟩ := s.hearsFrame_iff.mp (Bool.and_eq_true_iff.mp hr).1
    obtain rfl | rfl := h
    exacts [law.receive on tx f fun _ => rfl, law.receiveCorrupt tx true]

end RunLaw

namespace RunLaw

variable {s t : State}

/-! ### Host commands -/

theorem answer (law : RunLaw s) (c : HostCode) (r : ResultCode) (bs : List Byte) :
    RunLaw (s.answer c r bs) := { law with }

theorem answerLoose (law : RunLaw s) (c : HostCode) (r : ResultCode) (layout : List OutByte) :
    RunLaw (s.answerLoose c r layout) := { law with }

theorem ifPermitted (law : RunLaw s) {c : HostCode} {refused : List Byte} {f : State → State}
    (h : c.permitted s.ctl.station = true → RunLaw (f s)) : RunLaw (s.ifPermitted c refused f) := by
  unfold State.ifPermitted
  split
  · exact h ‹_›
  · exact law.answer _ _ _

/-- R75: a descriptor joins the request queue when there is room. -/
theorem takeSubmit (law : RunLaw s) (d : RawDescriptor) : RunLaw (s.takeSubmit d) := by
  refine law.ifPermitted fun _ => ?_
  dsimp only
  split
  · exact law.answer _ _ _
  · split
    · exact law.answer _ _ _
    · next hfull =>
      have hroom : s.issue.requestQueue.length < 32 := Nat.not_le.mp hfull
      refine answer ?_ _ _ _
      refine { law with queues := ⟨?_, law.queues.2⟩ }
      rw [List.length_append]
      exact hroom

/-- R147, R158: outside LOADING the settings of the Event Unit are replaced. -/
theorem setEvents (law : RunLaw s) (hs : s.ctl.station ≠ .loading) {f : EventUnit → EventUnit}
    (threshold : 1 ≤ (f s.events).threshold ∧ (f s.events).threshold ≤ 32)
    (pulse : (f s.events).lineMode = .level → (f s.events).pulsing = false) : RunLaw (s.onEvents f) :=
  law.onEvents ⟨threshold, pulse, fun h => absurd h hs⟩

theorem not_loading_of_permitted {c : HostCode} {x : StationState} (h : c.permitted x = true) (hc : c ≠ .restart) :
    x ≠ .loading := by
  rintro rfl
  exact hc (of_decide_eq_true h)

theorem takeAckEvents (law : RunLaw s) (b : Byte) : RunLaw (s.takeAckEvents b) := by
  refine law.ifPermitted fun hp =>
    answer (law.setEvents (not_loading_of_permitted hp nofun) law.events.threshold ?_) _ _ _
  intro hmode
  have hmode' : s.events.lineMode = .level := hmode
  simp [EventUnit.ack, hmode', law.events.pulse hmode']

theorem takeSetMask (law : RunLaw s) (b : Byte) : RunLaw (s.takeSetMask b) := by
  refine law.ifPermitted fun hp =>
    answer (law.setEvents (not_loading_of_permitted hp nofun) law.events.threshold ?_) _ _ _
  intro hmode
  have hmode' : s.events.lineMode = .level := hmode
  simp [EventUnit.setMask, hmode', law.events.pulse hmode']

theorem takeSetThreshold (law : RunLaw s) (b : Byte) : RunLaw (s.takeSetThreshold b) := by
  refine law.ifPermitted fun hp => ?_
  split
  · next h => exact answer (law.setEvents (not_loading_of_permitted hp nofun) h law.events.pulse) _ _ _
  · exact law.answer _ _ _

theorem takeSetLineMode (law : RunLaw s) (b : Byte) : RunLaw (s.takeSetLineMode b) := by
  refine law.ifPermitted fun hp => ?_
  split
  · next m _ =>
    refine answer (law.setEvents (f := fun e => e.setLineMode m) (not_loading_of_permitted hp nofun) ?_ ?_) _ _ _
    · unfold EventUnit.setLineMode
      split <;> exact law.events.threshold
    · unfold EventUnit.setLineMode
      split
      · exact law.events.pulse
      · exact fun _ => rfl
  · exact law.answer _ _ _

/-- R165: an item of the working configuration is stored, in CONFIG. -/
theorem takeConfigWrite (law : RunLaw s) (v : ConfigValue) : RunLaw (s.takeConfigWrite v) := by
  refine law.ifPermitted fun hp => ?_
  have hs : s.ctl.station = .config := by
    revert hp
    cases s.ctl.station <;> decide
  have hpresence := law.presence
  rw [hs] at hpresence
  dsimp only
  split
  · split
    · next h =>
      refine answer ?_ _ _ _
      refine { law with presence := ?_, table := fun _ h => absurd hs h }
      have hset := hpresence.setNumber ⟨_, h⟩
      rw [← hs] at hset
      exact hset
    · exact law.answer _ _ _
  · refine answer ?_ _ _ _
    exact { law with table := fun _ h => absurd hs h }
  · split
    · next h =>
      refine answer ?_ _ _ _
      exact { law with waitLimit := h }
    · exact law.answer _ _ _
  · split
    · refine answer ?_ _ _ _
      exact { law with table := fun _ h => absurd hs h }
    · exact law.answer _ _ _
  · exact law.answer _ _ _

theorem takeJoin (law : RunLaw s) : RunLaw s.takeJoin := by
  refine law.ifPermitted fun hp => ?_
  have hs : s.ctl.station = .config := by
    revert hp
    cases s.ctl.station <;> decide
  split
  · exact law.answer _ _ _
  · next hidle =>
    split
    · exact law.answer _ _ _
    · next hvalid =>
      refine answer (enterJoining law.held ?_ (lawfulTable_of_joinFault hvalid) law.waitLimit law.queues
        (law.events.stationChange nofun) (State.tx_none_of_not_joinBusy hidle) law.memory) _ _ _
      exact law.presence.stationChange (by simp [hs]) nofun (by rw [hs]; rfl)

theorem takeLeave (law : RunLaw s) : RunLaw s.takeLeave := by
  refine law.ifPermitted fun hp => ?_
  have hs : s.ctl.station = .online := by
    revert hp
    cases s.ctl.station <;> decide
  refine answer (s := { s with ctl := { s.ctl with station := .draining } }) ?_ _ _ _
  exact
    { law with
      presence := law.presence.stationChange (by simp [hs]) nofun (by rw [hs]; rfl)
      table := fun _ _ => law.table (by simp [hs]) (by simp [hs])
      holdoff := iff_of_false (fun h => by simpa [hs] using law.holdoff.mp h) nofun
      collisions := ⟨law.collisions.1, fun h => by simpa [hs] using law.collisions.2 h⟩
      events := law.events.stationChange nofun
      tif := law.tif.stationChange ⟨nofun, nofun⟩ (fun _ => rfl) fun _ => rfl }

theorem takeAbort (law : RunLaw s) : RunLaw s.takeAbort := law.ifPermitted fun _ => law.abortStation.answer _ _ _

theorem takeClearCounters (law : RunLaw s) (named : BitVec 16) : RunLaw (s.takeClearCounters named) :=
  law.ifPermitted fun _ => (law.onEvents (law.events.counted _)).answer _ _ _

theorem takeTakeCompletion (law : RunLaw s) : RunLaw s.takeTakeCompletion := by
  refine law.ifPermitted fun _ => ?_
  split
  exacts [law.answer _ _ _, law.answerLoose _ _ _]

theorem takeTakeNotify (law : RunLaw s) : RunLaw s.takeTakeNotify := by
  refine law.ifPermitted fun _ => ?_
  split <;> exact law.answer _ _ _

theorem takeConfigRead (law : RunLaw s) (x : ConfigItem) : RunLaw (s.takeConfigRead x) := by
  refine law.ifPermitted fun _ => ?_
  split
  case h_4 =>
    split
    exacts [law.answerLoose _ _ _, law.answer _ _ _]
  all_goals exact law.answer _ _ _

/-- R155: every command of the host. -/
theorem takeByCode (law : RunLaw s) (c : HostCode) (bs : List Byte) : RunLaw (s.takeByCode c bs) := by
  cases c
  case submit => exact law.takeSubmit _
  case ackEvents => exact law.takeAckEvents _
  case setMask => exact law.takeSetMask _
  case setThreshold => exact law.takeSetThreshold _
  case setLineMode => exact law.takeSetLineMode _
  case configWrite => exact law.takeConfigWrite _
  case join => exact law.takeJoin
  case leave => exact law.takeLeave
  case abort => exact law.takeAbort
  case clearCounters => exact law.takeClearCounters _
  case takeCompletion => exact law.takeTakeCompletion
  case takeNotify => exact law.takeTakeNotify
  case configRead => exact law.takeConfigRead _
  all_goals
    simp only [State.takeByCode, State.takeStatus, State.takeReadEvents, State.takeReadPresence, State.takeReadCounters,
      State.takeReadFault, State.takeRestart]
    exact law.ifPermitted fun _ => { law with }

theorem execHostByteComplete {b : Byte} (law : RunLaw s) (h : Machine.execHostByteComplete b s = .next t) :
    RunLaw t := by
  cases h
  rw [State.unlessHeld, if_neg (by simp [law.held])]
  obtain ⟨p, h⟩ | ⟨c, bs, h⟩ := s.byteCompleted_cases b <;> rw [h]
  · exact { law with }
  · exact law.takeByCode c bs

theorem exec_hostRow {i : Instr} {x : HostCode × List Byte × List Byte} (law : RunLaw s) (hrow : hostRow i = some x)
    (h : exec i s = .next t) : RunLaw t := by
  obtain rfl | ⟨-, rfl⟩ := exec_hostRow_cases hrow h
  · exact law
  · exact law.takeByCode _ _

end RunLaw

namespace RunLaw

variable {s t : State}

/-! ### The end of loading (R174, R175) -/

theorem configure_waitLimit (s : State) (eeprom : Option (List Byte)) (straps : StationNo) :
    1 ≤ (s.configure eeprom straps).ctl.waitLimit.toNat ∧ (s.configure eeprom straps).ctl.waitLimit.toNat ≤ 15 := by
  unfold State.configure
  dsimp only
  split
  · unfold imageWaitLimit
    dsimp only
    split
    · assumption
    · exact ⟨by decide, by decide⟩
  · exact ⟨by decide, by decide⟩

theorem configure_threshold (s : State) (eeprom : Option (List Byte)) (straps : StationNo) :
    1 ≤ (s.configure eeprom straps).events.threshold ∧ (s.configure eeprom straps).events.threshold ≤ 32 := by
  unfold State.configure
  dsimp only
  split
  · unfold imageThreshold
    dsimp only
    split
    · assumption
    · exact ⟨by decide, by decide⟩
  · exact ⟨by decide, by decide⟩

/-- R172: with every mask set and no pulse driven the settings of the Event Unit may be any. -/
theorem configured_events (law : RunLaw s) (hs : s.ctl.station = .loading) (eeprom : Option (List Byte))
    (straps : StationNo) (y : StationState) : EventsLaw y (s.configure eeprom straps).events := by
  obtain ⟨hmask, hpulsing⟩ := law.events.masked hs
  exact ⟨configure_threshold s eeprom straps, fun _ => hpulsing, fun _ => ⟨hmask, hpulsing⟩⟩

/-- R46: the presence table is cleared, the beacon stopped. -/
theorem configured_presence (law : RunLaw s) (hs : s.ctl.station = .loading) (eeprom : Option (List Byte))
    (straps : StationNo) {y : StationState} (off : y.transmits = false) :
    PresenceLaw y (s.configure eeprom straps).ctl.number (s.configure eeprom straps).presence := by
  have hoff : ¬ s.ctl.station.transmits = true := by rw [hs]; decide
  have htimer : s.presence.beaconTimer = .stopped := not_not.mp (mt law.presence.beacon.mp hoff)
  have hqueued : s.presence.beaconQueued = false := Bool.eq_false_iff.mpr (mt law.presence.queued hoff)
  exact .cleared off (by simp only [State.configure, htimer]) (by simp only [State.configure, hqueued])
    (by simp only [State.configure])

theorem endOfLoading (law : RunLaw s) (hs : s.ctl.station = .loading) (eeprom : Option (List Byte))
    (straps : StationNo) : RunLaw (s.endOfLoading eeprom straps) := by
  have silent := (law.tif.quiet (.inl hs)).1
  obtain ⟨f, hf, h⟩ | ⟨hvalid, h⟩ := s.endOfLoading_cases eeprom straps <;> rw [h]
  · have hevents : EventsLaw .config (f (s.configure eeprom straps).events) := by
      have hconfigured := law.configured_events hs eeprom straps .config
      obtain rfl | ⟨c, r, rfl⟩ := hf
      · exact hconfigured
      · exact hconfigured.raiseFault c r
    exact
      { held := law.held
        presence := law.configured_presence hs eeprom straps rfl
        table := fun _ h => absurd rfl h
        waitLimit := configure_waitLimit s eeprom straps
        holdoff := iff_of_false (fun h => by simpa [hs] using law.holdoff.mp h) nofun
        collisions := ⟨law.collisions.1, fun h => by simpa [hs] using law.collisions.2 h⟩
        queues := law.queues
        events := hevents
        tif := law.tif.stationChange ⟨nofun, nofun⟩ (by rw [hs]; nofun) (by rw [hs]; nofun)
        memory := law.memory }
  · exact enterJoining law.held (law.configured_presence hs eeprom straps rfl) (lawfulTable_of_joinFault hvalid)
      (configure_waitLimit s eeprom straps) law.queues (law.configured_events hs eeprom straps .joining) silent
      law.memory

/-! ### Resets (R170, R171) -/

/-- The blocks of a station after a reset. -/
theorem of_reset (law : StationLaw s) (lastFault : Option FaultRecord) (host : HostPort) :
    RunLaw { s.resetBlocks lastFault with host := host } where
  held := rfl
  presence := ⟨fun h => absurd rfl h, nofun, iff_of_false (not_not.mpr rfl) nofun, nofun⟩
  table h := absurd rfl h
  waitLimit := law.waitLimit
  holdoff := iff_of_false nofun nofun
  collisions := ⟨Nat.zero_le _, nofun⟩
  queues := ⟨Nat.zero_le _, Nat.zero_le _⟩
  events := ⟨⟨le_rfl, Nat.le_of_ble_eq_true rfl⟩, fun _ => rfl, fun _ => ⟨rfl, rfl⟩⟩
  tif := .busyWith fun _ => rfl
  memory := by
    have hmem := law.memory
    unfold State.resetBlocks
    dsimp only
    split
    · exact hmem
    · exact MemOp.wf_cutMemory hmem _

/-! ### Rows of the trunk -/

/-- The entries of the ORT and the retire list are no matter of these laws. -/
theorem withRequests (law : RunLaw s) (o : Ort) (retire : List Tag) :
    RunLaw { s with ort := o, completion := { s.completion with retire := retire } } := { law with }

theorem execOwnFrameSent (law : RunLaw s) (h : Machine.execOwnFrameSent s = .next t) : RunLaw t := by
  have silent : RunLaw { s with tif := Tif.busyWith none } := law.withTif (.busyWith fun _ => rfl)
  obtain rfl | ⟨tx, htx, ⟨hon, rfl⟩ | ⟨hd, rfl⟩ | ⟨hoff, hd, rfl⟩⟩ := execOwnFrameSent_cases h
  · exact law
  · have restarted : PresenceLaw s.ctl.station s.ctl.number
        { s.presence with beaconTimer := .running beaconInterval, beaconQueued := false } :=
      law.presence.setBeacon (timer := .running beaconInterval) hon nofun false
    have sent : RunLaw ({ s with tif := Tif.busyWith none } : State).ownTransmission :=
      { silent with
        presence := restarted
        collisions := ⟨Nat.zero_le _, nofun⟩ }
    refine sent.receive (StationState.listens_of_transmits hon) rfl _ fun hj => ?_
    have hj' : s.ctl.station = .joining := hj
    simp [State.onTrunk, hj'] at hon
  · refine silent.receive (s.receiverOn_iff.mpr (by simp [hd])) rfl _ fun hj => ?_
    exact absurd (hd.symm.trans hj) nofun
  · refine silent.afterFrame rfl _ (fun hx => ?_) nofun
    rw [(law.tif.quiet hx).1] at htx
    cases htx

theorem execCollision (law : RunLaw s) (h : Machine.execCollision s = .next t) : RunLaw t := by
  have abandoned : RunLaw s.abandoned :=
    { law with
      events := law.events.counted _
      tif := .busyWith fun _ => rfl }
  obtain rfl | ⟨-, hon, rfl⟩ | ⟨-, -, rfl⟩ := execCollision_cases h
  · exact law
  · have hlost := abandoned.loseSync
    by_cases hc : s.abandoned.access.collisions < 3
    · rw [State.accessCollision_counted hc]
      have hle : s.abandoned.access.collisions + 1 ≤ 4 := Nat.le_of_lt_succ (Nat.lt_succ_of_lt (Nat.succ_lt_succ hc))
      have hne : s.abandoned.access.collisions + 1 ≠ 4 := (Nat.succ_lt_succ hc).ne
      exact { hlost with collisions := ⟨hle, fun h4 => absurd h4 hne⟩ }
    · rw [State.accessCollision_limit (Nat.not_lt.mp hc)]
      exact hlost.detach hon rfl le_rfl _
  · exact abandoned

theorem requestOutcome (law : RunLaw s) (g : Tag) (out : SlotOutcome) : RunLaw (s.requestOutcome g out) := by
  unfold State.requestOutcome
  dsimp only
  split
  case isFalse => exact law
  split
  · split
    · exact law.enterDone _ _ _
    · exact { law with }
  · split
    · exact law.setEntry _ _
    · exact law.enterDone _ _ _
  · exact law.enterDone _ _ _
  · split
    · exact law.setEntry _ _
    · exact law.enterDone _ _ _
  · exact law.enterDone _ _ _
  · exact law.enterDone _ _ _

theorem dropResponse (law : RunLaw s) (i : Nat) : RunLaw (s.dropResponse i) :=
  { law with events := law.events.responsesDropped 1 }

theorem completionOutcome (law : RunLaw s) (out : CompletionOutcome) : RunLaw (s.completionOutcome out) := by
  unfold State.completionOutcome
  split
  · exact law
  · split
    · split
      · exact { law with }
      · exact law.dropResponse 0
      · split
        · exact { law with }
        · exact law.dropResponse 0
    · exact law

theorem handOutcome (law : RunLaw s) (sender : Option Origin) (out : SlotOutcome) :
    RunLaw (s.handOutcome sender out) := by
  unfold State.handOutcome
  split
  · exact law
  · exact law.requestOutcome _ out
  · exact law.completionOutcome _
  · exact law

theorem readBack (law : RunLaw s) (mark : Mark) (out : SlotOutcome) : RunLaw (s.readBack mark out) := by
  obtain h | ⟨c, -, -, h⟩ | ⟨c, dest, -, -, -, -, h⟩ := s.readBack_cases mark out <;> rw [h]
  · exact law
  · exact
      { law with
        table := fun h1 h2 => (law.table h1 h2).of_config (set_window_config _ c.window rfl)
        events := law.events.raiseTrunk _ }
  · exact { law with }

theorem execSlotEnd {cells : SlotCells} (law : RunLaw s) (h : Machine.execSlotEnd cells s = .next t) : RunLaw t := by
  obtain rfl | ⟨e, u, he, -, rfl, rfl⟩ := execSlotEnd_cases h
  · exact law
  · have hread := (law.readBack e.mark cells.resolve).handOutcome e.sender cells.resolve
    have htif : ((s.readBack e.mark cells.resolve).handOutcome e.sender cells.resolve).tif = s.tif := by simp
    exact hread.withTif (hread.tif.slotEnded (htif ▸ he) _)

theorem execSlotBegin (law : RunLaw s) (h : Machine.execSlotBegin s = .next t) : RunLaw t := by
  obtain rfl | ⟨e, he, -, rfl⟩ := execSlotBegin_cases h
  · exact law
  · refine law.withTif (law.tif.slotBegun he ?_)
    split
    · exact .inl rfl
    · exact .inr rfl

/-- R37: a station that counts the slots of an open round transmits nothing and takes no frame. -/
theorem counting (law : RunLaw s) (counts : s.countsSlots = true) {next : Nat} (idle : s.tif.trunk = .idle next) :
    s.ctl.station.listens = true ∧ s.tif.tx = none ∧ s.tif.incoming = false := by
  obtain ⟨hon, hquiet⟩ := Bool.and_eq_true_iff.mp counts
  refine ⟨hon, (s.tifQuiet_iff.mp hquiet).1, Bool.eq_false_iff.mpr fun hin => ?_⟩
  rw [(law.tif.incoming hin).2] at idle
  cases idle

theorem execContentionSlot {slot : Fin 48} (law : RunLaw s) (h : Machine.execContentionSlot slot s = .next t) :
    RunLaw t := by
  obtain rfl | ⟨hidle, hcounts, rfl⟩ := execContentionSlot_cases slot s t h
  · exact law
  · obtain ⟨tx, hon, -, h⟩ | h := s.beginSlot_cases slot <;> rw [h]
    · refine { law with tif := .busyWith fun hx => ?_ }
      change s.ctl.station = .loading ∨ s.ctl.station = .joining at hx
      rcases hx with h | h <;> simp [State.onTrunk, h] at hon
    · obtain ⟨hlistens, htx, hincoming⟩ := law.counting hcounts hidle
      exact law.withTif (law.tif.counted htx (law.tif.round _ hidle).2.2 hincoming hlistens slot.isLt)

theorem execPresenceTimeout {st : StationNo} (law : RunLaw s) (h : Machine.execPresenceTimeout st s = .next t) :
    RunLaw t := by
  obtain rfl | ⟨hzero, hon, rfl⟩ := execPresenceTimeout_cases h
  · exact law
  · have lost : RunLaw (s.presenceLost st) :=
      { law with
        presence := law.presence.setOther hon (by simp [hzero]) nofun
        events := law.events.raiseTrunk _ }
    have removed : RunLaw ((s.presenceLost st).ortStationLost st) := lost.withRequests _ _
    rw [State.targetStationLost_eq]
    exact { removed with events := removed.events.responsesDropped _ }

end RunLaw

namespace RunLaw

variable {s t : State}

/-! ### The memory port -/

/-- R134: the port becomes idle, and a fault is counted. -/
theorem released (law : RunLaw s) (fault : Bool) :
    RunLaw { s with port := none, events := if fault then s.events.countMemoryFault else s.events } := by
  refine { law with events := ?_ }
  dsimp only
  split
  · exact law.events.counted _
  · exact law.events

theorem respond (law : RunLaw s) (e : ServiceEntry) (status : CplStatus) (swapped : Bool) (data : List Byte) :
    RunLaw (s.respond e status swapped data) := by
  rw [State.respond_eq]
  exact { law with }

theorem popService (law : RunLaw s) : RunLaw s.popService := { law with }

theorem finishService (law : RunLaw s) (op : MemOp) (fault : Bool) : RunLaw (s.finishService op fault) := by
  unfold State.finishService
  split
  · exact law
  · split
    · refine popService ?_
      split
      · exact law.onEvents (law.events.raiseFault _ _)
      · exact law
    · exact (law.respond _ _ _ _).popService
    · refine popService ?_
      split <;> exact law.respond _ _ _ _
    · refine popService ?_
      split <;> exact law.respond _ _ _ _

theorem finishFetch (law : RunLaw s) (g : Tag) (op : MemOp) (fault : Bool) : RunLaw (s.finishFetch g op fault) := by
  unfold State.finishFetch
  dsimp only
  split
  case isFalse => exact law
  split
  · exact law.enterDone _ _ _
  · split
    · exact (law.enterDone _ _ _).onEvents (law.events.raiseFault _ _)
    · exact law.setEntry _ _

theorem finishStore (law : RunLaw s) (g : Tag) (fault : Bool) : RunLaw (s.finishStore g fault) := by
  unfold State.finishStore
  dsimp only
  split
  case isFalse => exact law
  split
  · exact law.enterDone _ _ _
  · split
    · exact (law.enterDone _ _ _).onEvents (law.events.raiseFault _ _)
    · exact law.enterDone _ _ _

theorem endOperation (law : RunLaw s) (op : MemOp) (fault : Bool) : RunLaw (s.endOperation op fault) := by
  unfold State.endOperation
  dsimp only
  split
  · split
    · exact law.released fault
    · exact (law.released fault).finishService op fault
  · exact (law.released fault).finishFetch _ op fault
  · exact (law.released fault).finishStore _ fault

theorem completeAccess (law : RunLaw s) {op : MemOp} (inside : 2 * op.word + 1 < localMemorySize)
    (other : Option (BitVec 16)) : RunLaw (s.completeAccess op other) := by
  obtain ⟨m, op', hm, -, ⟨-, h⟩ | ⟨-, h⟩⟩ := s.completeAccess_cases op other
  all_goals
    have accessed : RunLaw { s with localMem := m } :=
      { law with memory := hm ▸ MemOp.wf_access (wf_otherSideWrite law.memory inside other) inside }
    rw [h]
  · exact accessed.endOperation op' false
  · exact { accessed with }

/-! ### Records, and time -/

theorem placeRecord (law : RunLaw s) (room : s.completion.queue.length < 32) (g : Tag) (rest : List Tag) (st : Status) :
    RunLaw (s.placeRecord g rest st) := by
  have hqueue : s.issue.requestQueue.length ≤ 32 ∧ (s.completion.queue ++ [(s.entry g).record st]).length ≤ 32 :=
    ⟨law.queues.1, by rw [List.length_append]; exact room⟩
  have hevents := law.events.step (.recordPlaced s.events (s.completion.queue.length + 1) (s.entry g).urgent)
  unfold State.placeRecord State.retired
  dsimp only
  split <;> exact { law with queues := hqueue, events := hevents }

theorem serveNotify (law : RunLaw s) (e : ServiceEntry) (offset : Nat) : RunLaw (s.serveNotify e offset) := by
  refine popService (respond ?_ _ _ _ _)
  exact { law with events := law.events.step (.pendNotify s.events) }

theorem tick (law : RunLaw s) : RunLaw s.tick := by
  rw [State.tick, if_neg (by simp [law.held])]
  exact
    { law with
      presence := law.presence.tick
      holdoff := by simpa using law.holdoff }

theorem idle (law : RunLaw s) : RunLaw s.idle := by
  obtain ⟨h, -⟩ | ⟨op, -, -, h⟩ := s.idle_cases <;> rw [h]
  · exact law.tick
  · exact { law with }

/-! ### The rows -/

theorem execHostFrameEnd (law : RunLaw s) (h : Machine.execHostFrameEnd s = .next t) : RunLaw t := by
  have hqueue : s.issue.requestQueue.length ≤ 32 ∧ s.completion.queue.tail.length ≤ 32 :=
    ⟨law.queues.1, by rw [List.length_tail]; exact (Nat.sub_le _ _).trans law.queues.2⟩
  obtain rfl | rfl | rfl | rfl | rfl | rfl := execHostFrameEnd_cases h
  · exact law
  · exact { law with }
  · exact { law with events := law.events.counted _ }
  · exact { law with queues := hqueue }
  · exact { law with }
  · exact of_reset law.stationLaw _ _

/-- R178: the holdoff ends, and the station enters ONLINE. -/
theorem enterOnline (law : RunLaw s) (hj : s.ctl.station = .joining) :
    RunLaw { s with
      ctl := { s.ctl with station := .online, joinHoldoff := none }
      presence := { s.presence with beaconTimer := .running beaconInterval, beaconQueued := true } } :=
  { law with
    presence := ⟨fun _ => law.presence.self (by simp [hj]), nofun, iff_of_true nofun rfl, fun _ => rfl⟩
    table := fun _ _ => law.table (by simp [hj]) (by simp [hj])
    holdoff := iff_of_false nofun nofun
    collisions := ⟨law.collisions.1, fun h => by simpa [hj] using law.collisions.2 h⟩
    events := law.events.stationChange nofun
    tif := law.tif.stationChange ⟨nofun, nofun⟩ (fun _ => rfl) fun _ => rfl }

theorem execEndOfDraining (law : RunLaw s) (h : Machine.execEndOfDraining s = .next t) : RunLaw t := by
  obtain rfl | ⟨-, -, rfl⟩ := execEndOfDraining_cases h
  · exact law
  · have freed : RunLaw s.freeStale := law.withRequests _ s.completion.retire
    exact freed.leaveTrunk

theorem execLifetimeExpiry {place : ReservationPlace} (law : RunLaw s)
    (h : Machine.execLifetimeExpiry place s = .next t) : RunLaw t := by
  obtain ⟨i, rfl | rfl⟩ := execLifetimeExpiry_cases h
  · obtain h | ⟨e, -, -, h⟩ := s.expireService_cases i <;> rw [h]
    · exact law
    · exact { law with events := law.events.responsesDropped 1 }
  · obtain h | ⟨r, -, -, h⟩ := s.expireResponse_cases i <;> rw [h]
    · exact law
    · exact law.dropResponse i

/-- Every command but PIN_RESET keeps the laws of a station that is not held. -/
theorem exec {i : Instr} (law : RunLaw s) (hi : i ≠ .pinReset) (h : Machine.exec i s = .next t) : RunLaw t := by
  cases i
  case pinReset => exact absurd rfl hi
  case resetRelease =>
    obtain rfl | rfl := execResetRelease_cases h
    · exact law
    · exact { law with held := rfl }
  case endOfLoading eeprom straps =>
    obtain rfl | ⟨-, hs, rfl⟩ := execEndOfLoading_cases h
    exacts [law, law.endOfLoading hs eeprom straps]
  case hostFrameStart =>
    obtain rfl | rfl := execHostFrameStart_cases h
    · exact law
    · exact { law with }
  case hostFrameEnd => exact law.execHostFrameEnd h
  case contentionSlot slot => exact law.execContentionSlot h
  case roundOpen =>
    obtain rfl | ⟨hcounts, hdue, rfl⟩ := execRoundOpen_cases s t h
    · exact law
    · obtain ⟨hon, hquiet⟩ := Bool.and_eq_true_iff.mp hcounts
      obtain ⟨hincoming, hexchange⟩ : s.tif.incoming = false ∧ s.tif.exchange = none := by
        simpa using (Bool.and_eq_true_iff.mp hdue).1
      exact law.withTif (law.tif.counted (s.tifQuiet_iff.mp hquiet).1 hexchange hincoming hon (Nat.zero_le _))
  case slotBegin => exact law.execSlotBegin h
  case slotEnd cells => exact law.execSlotEnd h
  case ownFrameSent => exact law.execOwnFrameSent h
  case collision => exact law.execCollision h
  case requestFrameReceived f => exact law.frameReceived (execFrameReceived_cases (.inl ⟨f, rfl, rfl⟩) h)
  case completionFrameReceived f => exact law.frameReceived (execFrameReceived_cases (.inr ⟨f, rfl, rfl⟩) h)
  case beaconReceived src =>
    obtain rfl | ⟨hears, rfl⟩ := execBeaconReceived_cases h
    · exact law
    · obtain ⟨on, tx, -⟩ := s.hearsFrame_iff.mp hears
      exact law.receive on tx _ fun _ => rfl
  case corruptReception slotFollows =>
    obtain rfl | ⟨hears, rfl⟩ := execCorruptReception_cases h
    · exact law
    · obtain ⟨-, tx, -⟩ := s.hearsFrame_iff.mp hears
      exact law.receiveCorrupt tx _
  case presenceTimeout st => exact law.execPresenceTimeout h
  case beaconTimerExpiry =>
    obtain rfl | ⟨hon, rfl⟩ := execBeaconTimerExpiry_cases h
    · exact law
    · exact { law with presence := law.presence.setBeacon (timer := .expired) hon nofun true }
  case joinHoldoffExpiry =>
    obtain rfl | ⟨hj, -, rfl⟩ := execJoinHoldoffExpiry_cases h
    exacts [law, law.enterOnline hj]
  case holdoffExpiry g =>
    obtain rfl | ⟨-, rfl⟩ := execHoldoffExpiry_cases h
    exacts [law, law.setEntry g _]
  case completionTimeout g =>
    obtain rfl | ⟨-, rfl⟩ := execCompletionTimeout_cases h
    exacts [law, law.enterDone g _ _]
  case quarantineExpiry g =>
    obtain rfl | ⟨-, rfl⟩ := execQuarantineExpiry_cases h
    exacts [law, law.freeEntry g]
  case lifetimeExpiry place => exact law.execLifetimeExpiry h
  case issue =>
    obtain rfl | ⟨d, rest, g, hqueue, -, -, rfl⟩ := execIssue_cases h
    · exact law
    · have hlength : rest.length ≤ 32 := by
        have hle := law.queues.1
        rw [hqueue, List.length_cons] at hle
        omega
      exact { law with queues := ⟨hlength, law.queues.2⟩ }
  case placeRecord =>
    obtain rfl | ⟨g, rest, st, -, -, hroom, rfl⟩ := execPlaceRecord_cases h
    exacts [law, law.placeRecord hroom g rest st]
  case memoryGrant =>
    obtain rfl | ⟨op, -, -, -, rfl⟩ := execMemoryGrant_cases s t h
    · exact law
    · exact { law with }
  case wordAccessComplete other =>
    obtain rfl | ⟨op, -, hinside, rfl⟩ := execWordAccessComplete_cases h
    exacts [law, law.completeAccess hinside other]
  case waitTimerExpiry =>
    obtain rfl | ⟨op, -, -, rfl⟩ := execWaitTimerExpiry_cases s t h
    exacts [law, law.endOperation op true]
  case notifyService =>
    obtain rfl | ⟨e, rest, offset, -, -, rfl⟩ := execNotifyService_cases h
    exacts [law, law.serveNotify e offset]
  case endOfDraining => exact law.execEndOfDraining h
  case hintPulseEnd =>
    cases h
    exact { law with events := ⟨law.events.threshold, fun _ => rfl, fun hx => ⟨(law.events.masked hx).1, rfl⟩⟩ }
  case startDelimiterSeen =>
    obtain rfl | ⟨on, tx, rfl⟩ := execStartDelimiterSeen_cases h
    exacts [law, law.withTif (law.tif.delimiterSeen tx on)]
  case hostByteComplete b => exact law.execHostByteComplete h
  all_goals exact law.exec_hostRow rfl h

end RunLaw

/-! ### A station that is held -/

/-- The frame decoder of a held station stays IDLE (R154, R170). -/
theorem StationLaw.withHost {s : State} (law : StationLaw s) (selected : Bool) :
    StationLaw { s with host := { HostPort.atRest with selected := selected } } :=
  { law with
    held := fun h => congrArg (fun x : State => { x with host := { HostPort.atRest with selected := selected } })
      (law.held h) }

/-- R170: PIN_RESET. -/
theorem StationLaw.pinReset {s : State} (law : StationLaw s) :
    StationLaw { s.resetBlocks none with held := true } :=
  { (RunLaw.of_reset law none { State.reset.host with selected := s.host.selected }).stationLaw with
    held := fun _ => rfl }

/-- R170: every command keeps the laws of a held station. -/
theorem StationLaw.exec_of_held {i : Instr} {s t : State} (law : StationLaw s) (held : s.held = true)
    (h : Machine.exec i s = .next t) : StationLaw t := by
  by_cases hreset : i = .pinReset
  · subst hreset
    cases h
    exact law.pinReset
  by_cases hrelease : i = .resetRelease
  · subst hrelease
    obtain rfl | rfl := execResetRelease_cases h
    · exact law
    · exact { law with held := nofun }
  by_cases hstart : i = .hostFrameStart
  · subst hstart
    obtain rfl | rfl := execHostFrameStart_cases h
    · exact law
    · rw [if_pos held]
      exact law.withHost true
  by_cases hend : i = .hostFrameEnd
  · subst hend
    cases h
    split
    · rw [law.heldDecoder held]
      exact law.withHost false
    · exact law
  rw [law.exec_held held hreset hrelease hstart hend] at h
  cases h
  exact law

/-- Every command keeps the laws of the other blocks. -/
theorem StationLaw.exec {i : Instr} {s t : State} (law : StationLaw s) (h : Machine.exec i s = .next t) :
    StationLaw t := by
  by_cases hheld : s.held = true
  · exact law.exec_of_held hheld h
  · by_cases hi : i = .pinReset
    · subst hi
      cases h
      exact law.pinReset
    · exact ((law.run (Bool.eq_false_iff.mpr hheld)).exec hi h).stationLaw

/-- R170: a held station counts no tick, and its port is idle. -/
theorem StationLaw.idle {s : State} (law : StationLaw s) : StationLaw s.idle := by
  by_cases hheld : s.held = true
  · rw [State.idle, law.heldPort hheld]
    dsimp only
    rw [State.tick, if_pos hheld]
    exact law
  · exact (law.run (Bool.eq_false_iff.mpr hheld)).idle.stationLaw

/-- Settles O55: an idle step and every command keep the laws of the other blocks. -/
theorem stationLawKept : Obligations.StationLawKept := by
  intro s t law hstep
  unfold step at hstep
  split at hstep
  · cases hstep
    exact law.idle
  · next i rest _ => exact StationLaw.exec (law.withPending rest) hstep

end Sys2Proof.Machine
end

section
/-! PROOFS. Chapter 11, section 11.1: the doors between the station states (O57). -/

namespace Sys2Proof.Machine

variable {s t : State}

/-! ### Host commands -/

/-- R166, R177: JOIN alone leads from CONFIG to JOINING. -/
theorem State.takeJoin_station (s : State) :
    s.takeJoin.ctl.station = s.ctl.station ∨ (s.ctl.station = .config ∧ s.takeJoin.ctl.station = .joining) := by
  obtain h | h := Decidable.em (HostCode.join.permitted s.ctl.station = true)
  · have hs : s.ctl.station = .config := by
      revert h
      cases s.ctl.station <;> decide
    rw [State.takeJoin, State.ifPermitted, if_pos h]
    split
    · exact .inl rfl
    · split
      · exact .inl rfl
      · exact .inr ⟨hs, rfl⟩
  · rw [State.takeJoin, State.ifPermitted, if_neg h]
    exact .inl rfl

/-- R179: LEAVE alone leads from ONLINE to DRAINING. -/
theorem State.takeLeave_station (s : State) :
    s.takeLeave.ctl.station = s.ctl.station ∨ (s.ctl.station = .online ∧ s.takeLeave.ctl.station = .draining) := by
  obtain h | h := Decidable.em (HostCode.leave.permitted s.ctl.station = true)
  · refine .inr ⟨?_, by rw [State.takeLeave, State.ifPermitted, if_pos h]; rfl⟩
    revert h
    cases s.ctl.station <;> decide
  · rw [State.takeLeave, State.ifPermitted, if_neg h]
    exact .inl rfl

/-- R181: ABORT leads to CONFIG. -/
theorem State.takeAbort_station (s : State) :
    s.takeAbort.ctl.station = s.ctl.station
      ∨ (s.ctl.station ∈ [StationState.joining, .online, .draining, .detached]
        ∧ s.takeAbort.ctl.station = .config) := by
  obtain h | h := Decidable.em (HostCode.abort.permitted s.ctl.station = true)
  · refine .inr ⟨?_, by rw [State.takeAbort, State.ifPermitted, if_pos h]; rfl⟩
    revert h
    cases s.ctl.station <;> decide
  · rw [State.takeAbort, State.ifPermitted, if_neg h]
    exact .inl rfl

/-- A host command keeps the station state, or goes through its door. -/
theorem State.takeByCode_door (s : State) (c : HostCode) (bs : List Byte) {i : Instr}
    (join : c = .join → isHostCommand i .join) (leave : c = .leave → isHostCommand i .leave)
    (abort : c = .abort → isHostCommand i .abort) :
    (s.takeByCode c bs).ctl.station = s.ctl.station
      ∨ Door s.ctl.station i (s.takeByCode c bs).ctl.station := by
  by_cases hc : c ∈ [HostCode.join, .leave, .abort]
  · simp only [List.mem_cons, List.not_mem_nil, or_false] at hc
    obtain rfl | rfl | rfl := hc
    · refine s.takeJoin_station.imp id ?_
      rintro ⟨hs, ht⟩
      have hdoor := Door.join i (join rfl)
      rwa [← hs, ← ht] at hdoor
    · refine s.takeLeave_station.imp id ?_
      rintro ⟨hs, ht⟩
      have hdoor := Door.leave i (leave rfl)
      rwa [← hs, ← ht] at hdoor
    · refine s.takeAbort_station.imp id ?_
      rintro ⟨hs, ht⟩
      have hdoor := Door.abort _ i hs (abort rfl)
      rwa [← ht] at hdoor
  · exact .inl (s.takeByCode_hostFrame c bs hc).station

theorem exec_hostRow_door {i : Instr} {x : HostCode × List Byte × List Byte} (hrow : hostRow i = some x)
    (join : x.1 = .join → isHostCommand i .join) (leave : x.1 = .leave → isHostCommand i .leave)
    (abort : x.1 = .abort → isHostCommand i .abort) (h : exec i s = .next t) :
    t.ctl.station = s.ctl.station ∨ Door s.ctl.station i t.ctl.station := by
  obtain rfl | ⟨-, rfl⟩ := exec_hostRow_cases hrow h
  · exact .inl rfl
  · exact s.takeByCode_door _ _ join leave abort

theorem execHostByteComplete_door {b : Byte} (h : execHostByteComplete b s = .next t) :
    t.ctl.station = s.ctl.station ∨ Door s.ctl.station (.hostByteComplete b) t.ctl.station := by
  cases h
  unfold State.unlessHeld
  split
  · exact .inl rfl
  · dsimp only
    obtain ⟨p, h⟩ | ⟨c, bs, h⟩ := s.byteCompleted_cases b <;> rw [h]
    · exact .inl rfl
    · exact s.takeByCode_door c bs (fun _ => .inr ⟨b, rfl⟩) (fun _ => .inr ⟨b, rfl⟩) fun _ => .inr ⟨b, rfl⟩

/-! ### Receptions -/

theorem State.handByKind_ctl (s : State) (f : Frame) (sender : Option Origin) :
    (s.handByKind f sender).ctl = s.ctl := by
  unfold State.handByKind
  split
  · rfl
  · split
    · exact RunLaw.decideClaim_ctl s _
    · rfl
  · split
    · exact (RunLaw.ortCompletion_keeps s _).1
    · rfl

/-- R35: a reception changes the station state at a duplicate alone. -/
theorem State.receive_station (s : State) (f : Frame) (sender : Option Origin) :
    (s.receive f sender).ctl.station = s.ctl.station
      ∨ (sender = none ∧ s.ctl.station = .joining ∧ (s.receive f sender).ctl.station = .config)
      ∨ (sender = none ∧ s.ctl.station ≠ .joining ∧ s.ctl.station ≠ .detached
        ∧ (s.receive f sender).ctl.station = .detached) := by
  have hctl : ((s.presenceHeard f.source).accessHeard f.source).ctl = s.ctl := by
    rw [State.presenceHeard_accessHeard, State.heard_ctl]
  unfold State.receive
  dsimp only
  split
  · exact .inl (congrArg Controller.station hctl)
  · next hd =>
    split
    · next hdup =>
      unfold State.duplicate
      split
      · next hj => exact .inr (.inl ⟨hdup.1, hctl ▸ hj, rfl⟩)
      · next hj => exact .inr (.inr ⟨hdup.1, hctl ▸ hj, hd, rfl⟩)
    · rw [State.handByKind_ctl, hctl]
      exact .inl rfl

/-- R35: the doors of a reception. -/
theorem receive_door {i : Instr} (hi : isReception i = true) (hon : s.receiverOn = true) (f : Frame) :
    (s.receive f none).ctl.station = s.ctl.station ∨ Door s.ctl.station i (s.receive f none).ctl.station := by
  refine (s.receive_station f none).imp id ?_
  rintro (⟨-, hs, ht⟩ | ⟨-, hj, hd, ht⟩) <;> rw [ht]
  · rw [hs]
    exact .joinDuplicate i hi
  · refine .duplicate _ i ?_ hi
    have hmem := s.receiverOn_iff.mp hon
    simp only [List.mem_cons, List.not_mem_nil, or_false] at hmem ⊢
    tauto

theorem State.receiveCorrupt_ctl (s : State) (slotFollows : Bool) : (s.receiveCorrupt slotFollows).ctl = s.ctl := by
  unfold State.receiveCorrupt
  dsimp only
  split <;> rfl

theorem frameReceived_door {i : Instr} {f : Frame} (hi : isReception i = true)
    (h : t = s ∨ (s.receives = true ∧ (t = s.receive f none ∨ t = s.receiveCorrupt true))) :
    t.ctl.station = s.ctl.station ∨ Door s.ctl.station i t.ctl.station := by
  obtain rfl | ⟨hr, rfl | rfl⟩ := h
  · exact .inl rfl
  · exact receive_door hi (s.hearsFrame_iff.mp (Bool.and_eq_true_iff.mp hr).1).1 f
  · exact .inl (congrArg Controller.station (s.receiveCorrupt_ctl true))

/-! ### The rows -/

/-- R22: an own frame changes the station state in no way. -/
theorem execOwnFrameSent_station (h : execOwnFrameSent s = .next t) : t.ctl.station = s.ctl.station := by
  obtain rfl | ⟨tx, -, ⟨-, rfl⟩ | ⟨-, rfl⟩ | ⟨-, -, rfl⟩⟩ := execOwnFrameSent_cases h
  · rfl
  · obtain h | ⟨h, -⟩ | ⟨h, -⟩ := State.receive_station _ tx.frame (some tx.origin)
    · exact h
    all_goals cases h
  · obtain h | ⟨h, -⟩ | ⟨h, -⟩ := State.receive_station _ tx.frame (some tx.origin)
    · exact h
    all_goals cases h
  · rfl

/-- R42, R182: the fourth collision in a row detaches the station. -/
theorem execCollision_door (h : execCollision s = .next t) :
    t.ctl.station = s.ctl.station ∨ Door s.ctl.station .collision t.ctl.station := by
  obtain rfl | ⟨-, hon, rfl⟩ | ⟨-, -, rfl⟩ := execCollision_cases h
  · exact .inl rfl
  · by_cases hc : s.abandoned.access.collisions < 3
    · rw [State.accessCollision_counted hc]
      exact .inl rfl
    · rw [State.accessCollision_limit (Nat.not_lt.mp hc), State.detach_ctl]
      exact .inr (.collisionLimit _ (by simpa using s.onTrunk_iff.mp hon))
  · exact .inl rfl

theorem execEndOfLoading_door {eeprom : Option (List Byte)} {straps : StationNo}
    (h : execEndOfLoading eeprom straps s = .next t) :
    t.ctl.station = s.ctl.station ∨ Door s.ctl.station (.endOfLoading eeprom straps) t.ctl.station := by
  obtain rfl | ⟨-, hs, rfl⟩ := execEndOfLoading_cases h
  · exact .inl rfl
  · refine .inr ?_
    rw [hs]
    obtain ⟨f, -, h⟩ | ⟨-, h⟩ := s.endOfLoading_cases eeprom straps <;> rw [h]
    · exact .loaded eeprom straps
    · exact .autoJoin eeprom straps

theorem execHostFrameEnd_door (h : execHostFrameEnd s = .next t) :
    t.ctl.station = s.ctl.station ∨ Door s.ctl.station .hostFrameEnd t.ctl.station := by
  obtain rfl | rfl | rfl | rfl | rfl | rfl := execHostFrameEnd_cases h
  case inr.inr.inr.inr.inr => exact .inr (.restart _)
  all_goals exact .inl rfl

@[simp] theorem State.readBack_ctl (s : State) (mark : Mark) (out : SlotOutcome) :
    (s.readBack mark out).ctl = s.ctl := by
  obtain h | ⟨c, -, -, h⟩ | ⟨c, dest, -, -, -, -, h⟩ := s.readBack_cases mark out <;> rw [h] <;> rfl

@[simp] theorem State.handOutcome_ctl (s : State) (sender : Option Origin) (out : SlotOutcome) :
    (s.handOutcome sender out).ctl = s.ctl := by
  unfold State.handOutcome State.requestOutcome State.completionOutcome
  dsimp only
  repeat' split
  all_goals rfl

/-- What a claim and an own frame of the slot do with its outcome keeps the station state. -/
theorem execSlotEnd_ctl {cells : SlotCells} (h : execSlotEnd cells s = .next t) : t.ctl = s.ctl := by
  obtain rfl | ⟨e, u, -, -, rfl, rfl⟩ := execSlotEnd_cases h
  · rfl
  · change ((s.readBack e.mark cells.resolve).handOutcome e.sender cells.resolve).ctl = s.ctl
    rw [State.handOutcome_ctl, State.readBack_ctl]

theorem State.endOperation_ctl (s : State) (op : MemOp) (fault : Bool) : (s.endOperation op fault).ctl = s.ctl := by
  unfold State.endOperation State.finishFetch State.finishStore
  dsimp only
  split
  · split
    · rfl
    · rw [State.finishService_eq]
  · repeat' split
    all_goals rfl
  · repeat' split
    all_goals rfl

/-- Every command keeps the station state, or goes through a door. -/
theorem exec_door {i : Instr} (h : exec i s = .next t) :
    t.ctl.station = s.ctl.station ∨ Door s.ctl.station i t.ctl.station := by
  cases i
  case pinReset => cases h; exact .inr (.pinReset _)
  case resetRelease => obtain rfl | rfl := execResetRelease_cases h <;> exact .inl rfl
  case endOfLoading eeprom straps => exact execEndOfLoading_door h
  case hostFrameStart => obtain rfl | rfl := execHostFrameStart_cases h <;> exact .inl rfl
  case hostFrameEnd => exact execHostFrameEnd_door h
  case contentionSlot slot =>
    obtain rfl | ⟨-, -, rfl⟩ := execContentionSlot_cases slot s t h
    · exact .inl rfl
    · obtain ⟨tx, -, -, h⟩ | h := s.beginSlot_cases slot <;> rw [h] <;> exact .inl rfl
  case roundOpen => obtain rfl | ⟨-, -, rfl⟩ := execRoundOpen_cases s t h <;> exact .inl rfl
  case slotBegin => obtain rfl | ⟨e, -, -, rfl⟩ := execSlotBegin_cases h <;> exact .inl rfl
  case slotEnd cells => exact .inl (congrArg Controller.station (execSlotEnd_ctl h))
  case ownFrameSent => exact .inl (execOwnFrameSent_station h)
  case collision => exact execCollision_door h
  case requestFrameReceived f => exact frameReceived_door rfl (execFrameReceived_cases (.inl ⟨f, rfl, rfl⟩) h)
  case completionFrameReceived f => exact frameReceived_door rfl (execFrameReceived_cases (.inr ⟨f, rfl, rfl⟩) h)
  case beaconReceived src =>
    obtain rfl | ⟨hears, rfl⟩ := execBeaconReceived_cases h
    · exact .inl rfl
    · exact receive_door rfl (s.hearsFrame_iff.mp hears).1 _
  case corruptReception slotFollows =>
    obtain rfl | ⟨-, rfl⟩ := execCorruptReception_cases h
    · exact .inl rfl
    · exact .inl (congrArg Controller.station (s.receiveCorrupt_ctl slotFollows))
  case presenceTimeout st =>
    obtain rfl | ⟨-, -, rfl⟩ := execPresenceTimeout_cases h
    · exact .inl rfl
    · rw [State.targetStationLost_eq]
      exact .inl (congrArg Controller.station ((s.presenceLost st).ortStationLost_ctl st))
  case beaconTimerExpiry => obtain rfl | ⟨-, rfl⟩ := execBeaconTimerExpiry_cases h <;> exact .inl rfl
  case joinHoldoffExpiry =>
    obtain rfl | ⟨hj, -, rfl⟩ := execJoinHoldoffExpiry_cases h
    · exact .inl rfl
    · rw [hj]
      exact .inr .holdoff
  case holdoffExpiry g => obtain rfl | ⟨-, rfl⟩ := execHoldoffExpiry_cases h <;> exact .inl rfl
  case completionTimeout g => obtain rfl | ⟨-, rfl⟩ := execCompletionTimeout_cases h <;> exact .inl rfl
  case quarantineExpiry g => obtain rfl | ⟨-, rfl⟩ := execQuarantineExpiry_cases h <;> exact .inl rfl
  case lifetimeExpiry place =>
    obtain ⟨i, rfl | rfl⟩ := execLifetimeExpiry_cases h
    · obtain h | ⟨e, -, -, h⟩ := s.expireService_cases i <;> rw [h] <;> exact .inl rfl
    · obtain h | ⟨r, -, -, h⟩ := s.expireResponse_cases i <;> rw [h] <;> exact .inl rfl
  case issue => obtain rfl | ⟨d, rest, g, -, -, -, rfl⟩ := execIssue_cases h <;> exact .inl rfl
  case placeRecord =>
    obtain rfl | ⟨g, rest, st, -, -, -, rfl⟩ := execPlaceRecord_cases h
    · exact .inl rfl
    · unfold State.placeRecord State.retired
      dsimp only
      split <;> exact .inl rfl
  case memoryGrant => obtain rfl | ⟨op, -, -, -, rfl⟩ := execMemoryGrant_cases s t h <;> exact .inl rfl
  case wordAccessComplete other =>
    obtain rfl | ⟨op, -, -, rfl⟩ := execWordAccessComplete_cases h
    · exact .inl rfl
    · obtain ⟨m, op', -, -, ⟨-, h⟩ | ⟨-, h⟩⟩ := s.completeAccess_cases op other <;> rw [h]
      · rw [State.endOperation_ctl]
        exact .inl rfl
      · exact .inl rfl
  case waitTimerExpiry =>
    obtain rfl | ⟨op, -, -, rfl⟩ := execWaitTimerExpiry_cases s t h
    · exact .inl rfl
    · rw [State.endOperation_ctl]
      exact .inl rfl
  case notifyService =>
    obtain rfl | ⟨e, rest, offset, -, -, rfl⟩ := execNotifyService_cases h
    · exact .inl rfl
    · rw [State.serveNotify_eq]
      exact .inl rfl
  case endOfDraining =>
    obtain rfl | ⟨hs, -, rfl⟩ := execEndOfDraining_cases h
    · exact .inl rfl
    · rw [hs]
      exact .inr .atRest
  case hintPulseEnd => cases h; exact .inl rfl
  case startDelimiterSeen => obtain rfl | ⟨-, -, rfl⟩ := execStartDelimiterSeen_cases h <;> exact .inl rfl
  case hostByteComplete b => exact execHostByteComplete_door h
  case join => exact exec_hostRow_door rfl (fun _ => .inl rfl) nofun nofun h
  case leave => exact exec_hostRow_door rfl nofun (fun _ => .inl rfl) nofun h
  case abort => exact exec_hostRow_door rfl nofun nofun (fun _ => .inl rfl) h
  all_goals exact exec_hostRow_door rfl nofun nofun nofun h

/-- Settles O57. -/
theorem stationStateDoors : Obligations.StationStateDoors :=
  fun _ _ _ h hne => (exec_door h).resolve_left hne

end Sys2Proof.Machine
end

section
/-! PROOFS. Chapters 2 and 3 (the trunk): what a command can do to the Trunk Interface. The law of silence (O58) and
the rounds (O27). -/

namespace Sys2Proof.Machine

/-! ### Steps of the Trunk Interface that start nothing -/

/-- The levels driven in the slot of this exchange. -/
def Exchange.drives : Option Exchange → SlotCells
  | none => SlotCells.released
  | some e => if e.begun then e.mark.cells e.number else SlotCells.released

theorem State.drives_eq (s : State) : s.drives = Exchange.drives s.tif.exchange := by
  unfold State.drives Exchange.drives
  cases s.tif.exchange <;> rfl

theorem Exchange.drives_notBegun {e : Exchange} (h : e.begun = false) :
    Exchange.drives (some e) = SlotCells.released := by
  simp [Exchange.drives, h]

/-- R28, R37: from `t` to `u` no own frame starts, no mark begins to be driven, and no round opens or moves on. -/
structure TifStep (t u : Tif) : Prop where
  tx : u.tx = t.tx ∨ u.tx = none
  drives : Exchange.drives u.exchange = Exchange.drives t.exchange ∨ Exchange.drives u.exchange = SlotCells.released
  round : ∀ next, u.trunk = .idle next → t.trunk = .idle next

namespace TifStep

variable {t u v : Tif}

theorem of_eq (h : u = t) : TifStep t u := h ▸ ⟨.inl rfl, .inl rfl, fun _ => id⟩

theorem trans (h : TifStep t u) (k : TifStep u v) : TifStep t v where
  tx := k.tx.elim (fun e => e ▸ h.tx) .inr
  drives := k.drives.elim (fun e => e ▸ h.drives) .inr
  round next hv := h.round next (k.round next hv)

/-- R22, R37: the trunk is busy, with no exchange. -/
theorem busyWith {tx : Option Transmission} (h : tx = t.tx ∨ tx = none) : TifStep t (Tif.busyWith tx) :=
  ⟨h, .inr rfl, nofun⟩

/-- R22: a frame has ended, and the slot behind it has not begun. -/
theorem frameEnded (t : Tif) {slot : Option Exchange} (h : ∀ e, slot = some e → e.begun = false) :
    TifStep t (t.frameEnded slot) := by
  unfold Tif.frameEnded
  split
  · refine ⟨.inl rfl, .inr ?_, nofun⟩
    cases slot with
    | none => rfl
    | some e => exact Exchange.drives_notBegun (h e rfl)
  · exact ⟨.inl rfl, .inl rfl, nofun⟩

/-- R29: a slot has ended, and the one behind it has not begun. -/
theorem slotEnded (t : Tif) (number : StationNo) : TifStep t (t.slotEnded number) := by
  refine ⟨.inl rfl, .inr ?_, fun _ => id⟩
  unfold Tif.slotEnded
  dsimp only
  split <;> rfl

/-- R30: marks that have not begun are dropped. -/
theorem dropUnbegunMark (s : State) : TifStep s.tif s.dropUnbegunMark.tif := by
  refine ⟨.inl rfl, .inl ?_, fun _ => id⟩
  unfold State.dropUnbegunMark
  cases s.tif.exchange with
  | none => rfl
  | some e => cases hb : e.begun <;> simp [Exchange.drives, hb]

/-- R23: the receiver goes off. -/
theorem leaveTrunk (s : State) : TifStep s.tif s.leaveTrunk.tif := by
  refine ⟨.inl rfl, ?_, nofun⟩
  change Exchange.drives (s.tif.exchange.filter _) = _ ∨ Exchange.drives (s.tif.exchange.filter _) = _
  cases s.tif.exchange with
  | none => exact .inl rfl
  | some e => cases hun : e.uninvolved <;> simp [Option.filter, hun, Exchange.drives]

theorem detach (s : State) (kind : FaultKind) : TifStep s.tif (s.detach kind).tif := dropUnbegunMark s

theorem abortStation (s : State) : TifStep s.tif s.abortStation.tif :=
  (dropUnbegunMark s).trans (leaveTrunk s.dropUnbegunMark)

theorem afterFrame (s : State) (f : Frame) (sender : Option Origin) (mark : Mark) :
    TifStep s.tif (s.afterFrame f sender mark).tif := by
  refine frameEnded s.tif fun e he => ?_
  cases f <;> cases he <;> rfl

theorem duplicate (s : State) (f : Frame) : TifStep s.tif (s.duplicate f).tif := by
  have hended := afterFrame s f none .none
  unfold State.duplicate
  split
  · exact hended.trans (leaveTrunk ((s.afterFrame f none .none).onEvents _))
  · exact hended.trans (detach _ _)

theorem handByKind (s : State) (f : Frame) (sender : Option Origin) : TifStep s.tif (s.handByKind f sender).tif := by
  unfold State.handByKind
  split
  · exact afterFrame s _ _ _
  · next r =>
    split
    · exact (of_eq (RunLaw.decideClaim_tif s r)).trans (afterFrame _ _ _ _)
    · exact afterFrame s _ _ _
  · next c =>
    split
    · exact (of_eq (RunLaw.ortCompletion_keeps s c).2).trans (afterFrame _ _ _ _)
    · exact afterFrame s _ _ _

/-- R25: a clean reception. -/
theorem receive (s : State) (f : Frame) (sender : Option Origin) : TifStep s.tif (s.receive f sender).tif := by
  have hpresence : TifStep s.tif (s.presenceHeard f.source).tif := by
    unfold State.presenceHeard
    split <;> exact of_eq rfl
  have haccess : TifStep s.tif ((s.presenceHeard f.source).accessHeard f.source).tif := hpresence
  unfold State.receive
  dsimp only
  split
  · exact hpresence.trans (afterFrame _ _ _ _)
  · split
    · exact haccess.trans (duplicate _ _)
    · exact haccess.trans (handByKind _ _ _)

/-- R26: a corrupt reception. -/
theorem receiveCorrupt (s : State) (slotFollows : Bool) : TifStep s.tif (s.receiveCorrupt slotFollows).tif := by
  unfold State.receiveCorrupt
  dsimp only
  split <;>
  · refine frameEnded s.tif fun e he => ?_
    split at he
    · cases he; rfl
    · cases he

theorem frameReceived {s t : State} {f : Frame}
    (h : t = s ∨ (s.receives = true ∧ (t = s.receive f none ∨ t = s.receiveCorrupt true))) : TifStep s.tif t.tif := by
  obtain rfl | ⟨-, rfl | rfl⟩ := h
  exacts [of_eq rfl, receive s f none, receiveCorrupt s true]

theorem hostStep {s t : State} (h : HostStep s t) : TifStep s.tif t.tif := by
  cases h with
  | frame h => exact of_eq h.tif
  | joined => exact busyWith (.inl rfl)
  | left => exact of_eq rfl
  | aborted => exact abortStation s

theorem execOwnFrameSent {s t : State} (h : Machine.execOwnFrameSent s = .next t) : TifStep s.tif t.tif := by
  have sent : TifStep s.tif (Tif.busyWith none) := busyWith (.inr rfl)
  obtain rfl | ⟨tx, -, ⟨-, rfl⟩ | ⟨-, rfl⟩ | ⟨-, -, rfl⟩⟩ := execOwnFrameSent_cases h
  · exact of_eq rfl
  · exact sent.trans (receive ({ s with tif := Tif.busyWith none } : State).ownTransmission _ _)
  · exact sent.trans (receive ({ s with tif := Tif.busyWith none } : State) _ _)
  · exact sent.trans (afterFrame ({ s with tif := Tif.busyWith none } : State) _ _ _)

theorem execCollision {s t : State} (h : Machine.execCollision s = .next t) : TifStep s.tif t.tif := by
  have abandoned : TifStep s.tif s.abandoned.tif := busyWith (.inr rfl)
  obtain rfl | ⟨-, -, rfl⟩ | ⟨-, -, rfl⟩ := execCollision_cases h
  · exact of_eq rfl
  · by_cases hc : s.abandoned.access.collisions < 3
    · rw [State.accessCollision_counted hc]
      exact abandoned
    · rw [State.accessCollision_limit (Nat.not_lt.mp hc)]
      exact abandoned.trans (detach (s.abandoned.collided 4) _)
  · exact abandoned

theorem execSlotEnd {cells : SlotCells} {s t : State} (h : Machine.execSlotEnd cells s = .next t) :
    TifStep s.tif t.tif := by
  obtain rfl | ⟨e, u, -, -, rfl, rfl⟩ := execSlotEnd_cases h
  · exact of_eq rfl
  · have htif : ((s.readBack e.mark cells.resolve).handOutcome e.sender cells.resolve).tif = s.tif := by simp
    exact (of_eq htif).trans (slotEnded _ _)

theorem endOperation (s : State) (op : MemOp) (fault : Bool) : TifStep s.tif (s.endOperation op fault).tif := by
  refine of_eq ?_
  unfold State.endOperation State.finishFetch State.finishStore
  dsimp only
  split
  · split
    · rfl
    · rw [State.finishService_eq]
  · repeat' split
    all_goals rfl
  · repeat' split
    all_goals rfl

end TifStep

/-- R28, R37: every command but ROUND_OPEN, CONTENTION_SLOT and SLOT_BEGIN starts nothing. -/
theorem exec_tifStep {i : Instr} {s t : State} (round : i ≠ .roundOpen) (slot : ∀ k, i ≠ .contentionSlot k)
    (begin : i ≠ .slotBegin) (h : exec i s = .next t) : TifStep s.tif t.tif := by
  cases i
  case roundOpen => exact absurd rfl round
  case contentionSlot k => exact absurd rfl (slot k)
  case slotBegin => exact absurd rfl begin
  case pinReset => cases h; exact .busyWith (.inr rfl)
  case resetRelease => obtain rfl | rfl := execResetRelease_cases h <;> exact .of_eq rfl
  case endOfLoading eeprom straps =>
    obtain rfl | ⟨-, -, rfl⟩ := execEndOfLoading_cases h
    · exact .of_eq rfl
    · obtain ⟨f, -, h⟩ | ⟨-, h⟩ := s.endOfLoading_cases eeprom straps <;> rw [h]
      · exact .of_eq rfl
      · exact .busyWith (.inl rfl)
  case hostFrameStart => obtain rfl | rfl := execHostFrameStart_cases h <;> exact .of_eq rfl
  case hostFrameEnd =>
    obtain rfl | rfl | rfl | rfl | rfl | rfl := execHostFrameEnd_cases h
    case inr.inr.inr.inr.inr => exact .busyWith (.inr rfl)
    all_goals exact .of_eq rfl
  case slotEnd cells => exact .execSlotEnd h
  case ownFrameSent => exact .execOwnFrameSent h
  case collision => exact .execCollision h
  case requestFrameReceived f => exact .frameReceived (execFrameReceived_cases (.inl ⟨f, rfl, rfl⟩) h)
  case completionFrameReceived f => exact .frameReceived (execFrameReceived_cases (.inr ⟨f, rfl, rfl⟩) h)
  case beaconReceived src =>
    obtain rfl | ⟨-, rfl⟩ := execBeaconReceived_cases h
    exacts [.of_eq rfl, .receive s _ _]
  case corruptReception slotFollows =>
    obtain rfl | ⟨-, rfl⟩ := execCorruptReception_cases h
    exacts [.of_eq rfl, .receiveCorrupt s _]
  case presenceTimeout st =>
    obtain rfl | ⟨-, -, rfl⟩ := execPresenceTimeout_cases h
    · exact .of_eq rfl
    · rw [State.targetStationLost_eq]
      exact .of_eq ((s.presenceLost st).ortStationLost_tif st)
  case beaconTimerExpiry => obtain rfl | ⟨-, rfl⟩ := execBeaconTimerExpiry_cases h <;> exact .of_eq rfl
  case joinHoldoffExpiry => obtain rfl | ⟨-, -, rfl⟩ := execJoinHoldoffExpiry_cases h <;> exact .of_eq rfl
  case holdoffExpiry g => obtain rfl | ⟨-, rfl⟩ := execHoldoffExpiry_cases h <;> exact .of_eq rfl
  case completionTimeout g => obtain rfl | ⟨-, rfl⟩ := execCompletionTimeout_cases h <;> exact .of_eq rfl
  case quarantineExpiry g => obtain rfl | ⟨-, rfl⟩ := execQuarantineExpiry_cases h <;> exact .of_eq rfl
  case lifetimeExpiry place =>
    obtain ⟨i, rfl | rfl⟩ := execLifetimeExpiry_cases h
    · obtain h | ⟨e, -, -, h⟩ := s.expireService_cases i <;> rw [h] <;> exact .of_eq rfl
    · obtain h | ⟨r, -, -, h⟩ := s.expireResponse_cases i <;> rw [h] <;> exact .of_eq rfl
  case issue => obtain rfl | ⟨d, rest, g, -, -, -, rfl⟩ := execIssue_cases h <;> exact .of_eq rfl
  case placeRecord =>
    obtain rfl | ⟨g, rest, st, -, -, -, rfl⟩ := execPlaceRecord_cases h
    · exact .of_eq rfl
    · unfold State.placeRecord State.retired
      dsimp only
      split <;> exact .of_eq rfl
  case memoryGrant => obtain rfl | ⟨op, -, -, -, rfl⟩ := execMemoryGrant_cases s t h <;> exact .of_eq rfl
  case wordAccessComplete other =>
    obtain rfl | ⟨op, -, -, rfl⟩ := execWordAccessComplete_cases h
    · exact .of_eq rfl
    · obtain ⟨m, op', -, -, ⟨-, h⟩ | ⟨-, h⟩⟩ := s.completeAccess_cases op other <;> rw [h]
      · exact .endOperation { s with localMem := m } op' false
      · exact .of_eq rfl
  case waitTimerExpiry =>
    obtain rfl | ⟨op, -, -, rfl⟩ := execWaitTimerExpiry_cases s t h
    exacts [.of_eq rfl, .endOperation s op true]
  case notifyService =>
    obtain rfl | ⟨e, rest, offset, -, -, rfl⟩ := execNotifyService_cases h
    · exact .of_eq rfl
    · rw [State.serveNotify_eq]
      exact .of_eq rfl
  case endOfDraining =>
    obtain rfl | ⟨-, -, rfl⟩ := execEndOfDraining_cases h
    · exact .of_eq rfl
    · exact (TifStep.of_eq s.freeStale_tif).trans (.leaveTrunk s.freeStale)
  case hintPulseEnd => cases h; exact .of_eq rfl
  case startDelimiterSeen =>
    obtain rfl | ⟨-, -, rfl⟩ := execStartDelimiterSeen_cases h
    · exact .of_eq rfl
    · exact ⟨.inl rfl, .inl rfl, nofun⟩
  case hostByteComplete b => exact .hostStep (.execHostByteComplete h)
  all_goals exact .hostStep (.exec_hostRow rfl h)

/-- Settles O58: the three rows that may start something do so on the trunk alone. -/
theorem lawOfSilence : Obligations.LawOfSilence := by
  intro i s t hs h
  have hoff : s.onTrunk = false := by
    rw [Bool.eq_false_iff, Ne, s.onTrunk_iff]
    simp only [List.mem_cons, List.not_mem_nil, or_false] at hs
    rintro (h | h) <;> simp [h] at hs
  rw [State.drives_eq, State.drives_eq]
  by_cases hround : i = .roundOpen
  · subst hround
    obtain rfl | ⟨-, -, rfl⟩ := execRoundOpen_cases s t h <;> exact ⟨.inl rfl, .inl rfl⟩
  by_cases hslot : ∃ k, i = .contentionSlot k
  · obtain ⟨k, rfl⟩ := hslot
    obtain rfl | ⟨-, -, rfl⟩ := execContentionSlot_cases k s t h
    · exact ⟨.inl rfl, .inl rfl⟩
    · obtain ⟨tx, hon, -⟩ | h := s.beginSlot_cases k
      · simp [hoff] at hon
      · rw [h]
        exact ⟨.inl rfl, .inl rfl⟩
  by_cases hbegin : i = .slotBegin
  · subst hbegin
    obtain rfl | ⟨e, -, -, rfl⟩ := execSlotBegin_cases h
    · exact ⟨.inl rfl, .inl rfl⟩
    · rw [hoff]
      exact ⟨.inl rfl, .inr rfl⟩
  obtain ⟨htx, hdrives, -⟩ := exec_tifStep hround (fun k hk => hslot ⟨k, hk⟩) hbegin h
  exact ⟨htx, hdrives⟩

/-! ### Rounds (R37) -/

theorem Exchange.uninvolved_iff (e : Exchange) : e.uninvolved = true ↔ e.sender = none ∧ e.mark = .none := by
  simp [Exchange.uninvolved]

/-- R37: no command opens a round but ROUND_OPEN, and none moves it on but the next slot. -/
theorem exec_round {i : Instr} {s t : State} {next : Nat} (h : exec i s = .next t) (hnext : t.tif.trunk = .idle next) :
    s.tif.trunk = .idle next ∨ (i = .roundOpen ∧ next = 0) ∨
      ∃ slot : Fin 48, i = .contentionSlot slot ∧ s.tif.trunk = .idle slot.val ∧ next = slot.val + 1 := by
  by_cases hround : i = .roundOpen
  · subst hround
    obtain rfl | ⟨-, -, rfl⟩ := execRoundOpen_cases s t h
    · exact .inl hnext
    · cases hnext
      exact .inr (.inl ⟨rfl, rfl⟩)
  by_cases hslot : ∃ k, i = .contentionSlot k
  · obtain ⟨k, rfl⟩ := hslot
    obtain rfl | ⟨hidle, -, rfl⟩ := execContentionSlot_cases k s t h
    · exact .inl hnext
    · obtain ⟨tx, -, -, h⟩ | h := s.beginSlot_cases k <;> rw [h] at hnext
      · cases hnext
      · cases hnext
        exact .inr (.inr ⟨k, rfl, hidle, rfl⟩)
  by_cases hbegin : i = .slotBegin
  · subst hbegin
    obtain rfl | ⟨e, -, -, rfl⟩ := execSlotBegin_cases h <;> exact .inl hnext
  exact .inl ((exec_tifStep hround (fun k hk => hslot ⟨k, hk⟩) hbegin h).round next hnext)

theorem receiverOff_iff (s : State) : s.receiverOn = false ↔ s.ctl.station ∈ [StationState.loading, .config] := by
  rw [← Bool.not_eq_true, s.receiverOn_iff]
  cases s.ctl.station <;> simp

/-- Settles O27. -/
theorem roundsOpenAndEnd : Obligations.RoundsOpenAndEnd := by
  intro s
  refine ⟨?_, fun hs => ⟨fun hquiet hexchange hincoming htrunk => ?_, fun htx => ?_⟩, fun hno => ?_, fun hno => ?_,
    fun i t next => exec_round⟩
  · rw [s.tifQuiet_iff, s.tif.uninvolved_iff]
    simp only [Exchange.uninvolved_iff]
  · have hdue := s.tif.roundDue_iff.mpr ⟨hincoming, hexchange, by simpa using htrunk⟩
    change execRoundOpen s = _
    rw [execRoundOpen, State.countsSlots, s.receiverOn_iff.mpr hs, hquiet, hdue]
    rfl
  · change execStartDelimiterSeen s = _
    rw [execStartDelimiterSeen, s.receiverOn_iff.mpr hs, decide_eq_true htx]
    rfl
  · have hclosed : ¬ (s.countsSlots && s.tif.roundDue) = true := by
      rw [State.countsSlots, Bool.and_eq_true, Bool.and_eq_true, s.tif.roundDue_iff]
      rintro ⟨⟨hon, hquiet⟩, hincoming, hexchange, htrunk⟩
      obtain h | h | h | h | h := hno
      · simp [(receiverOff_iff s).mpr h] at hon
      · simp [h] at hquiet
      · exact h hexchange
      · simp [h] at hincoming
      · exact h (by simpa using htrunk)
    change execRoundOpen s = _
    rw [execRoundOpen, if_neg hclosed]
  · have hdeaf : ¬ (s.receiverOn && decide (s.tif.tx = none)) = true := by
      rw [Bool.and_eq_true, decide_eq_true_eq]
      rintro ⟨hon, htx⟩
      obtain h | h := hno
      · simp [(receiverOff_iff s).mpr h] at hon
      · exact h htx
    change execStartDelimiterSeen s = _
    rw [execStartDelimiterSeen, if_neg hdeaf]

end Sys2Proof.Machine
end

section
/-! PROOFS. Chapter 2 (the claim law): a request joins the service queue on the claimant's own ACCEPT read back alone
(O59). -/

namespace Sys2Proof.Machine

/-- The requests in the service queue, from the head. -/
def State.requests (s : State) : List ReqFrame := s.target.service.map (fun e => e.request)

/-- R60, R71: from `s` to `t` requests leave the service queue, from the head, and none joins it. -/
def Served (s t : State) : Prop := ∃ k, t.requests = s.requests.drop k

namespace Served

variable {s t u : State}

theorem of_requests (h : t.requests = s.requests) : Served s t := ⟨0, h⟩

theorem of_eq (h : t.target.service = s.target.service) : Served s t :=
  of_requests (by rw [State.requests, State.requests, h])

theorem of_nil (h : t.target.service = []) : Served s t :=
  ⟨s.requests.length, by rw [List.drop_length, State.requests, h]; rfl⟩

theorem trans (h : Served s t) (k : Served t u) : Served s u := by
  obtain ⟨m, hm⟩ := h
  obtain ⟨n, hn⟩ := k
  exact ⟨m + n, by rw [hn, hm, List.drop_drop]⟩

/-- R60: the head is removed. -/
theorem popService (s : State) : Served s s.popService :=
  ⟨1, by simp [State.requests, State.popService]⟩

theorem respond (s : State) (e : ServiceEntry) (status : CplStatus) (swapped : Bool) (data : List Byte) :
    Served s (s.respond e status swapped data) := by
  obtain ⟨t, k, -, -, h⟩ | ⟨-, h⟩ := s.respond_cases e status swapped data <;> rw [h] <;> exact of_eq rfl

theorem finishService (s : State) (op : MemOp) (fault : Bool) : Served s (s.finishService op fault) := by
  unfold State.finishService
  split
  · exact of_eq rfl
  · split
    · refine trans ?_ (popService _)
      split <;> exact of_eq rfl
    · exact (respond s _ _ _ _).trans (popService _)
    · refine trans ?_ (popService _)
      split <;> exact respond s _ _ _ _
    · refine trans ?_ (popService _)
      split <;> exact respond s _ _ _ _

/-- R134: the end of an operation serves the head, or is no matter of the service queue. -/
theorem endOperation (s : State) (op : MemOp) (fault : Bool) : Served s (s.endOperation op fault) := by
  unfold State.endOperation State.finishFetch State.finishStore
  dsimp only
  split
  · split
    · exact of_eq rfl
    · exact trans (of_eq rfl) (finishService _ op fault)
  · repeat' split
    all_goals exact of_eq rfl
  · repeat' split
    all_goals exact of_eq rfl

theorem completeAccess (s : State) (op : MemOp) (other : Option (BitVec 16)) :
    Served s (s.completeAccess op other) := by
  obtain ⟨m, op', -, -, ⟨-, h⟩ | ⟨-, h⟩⟩ := s.completeAccess_cases op other <;> rw [h]
  · exact trans (of_eq rfl) (endOperation { s with localMem := m } op' false)
  · exact of_eq rfl

theorem serveNotify (s : State) (e : ServiceEntry) (offset : Nat) : Served s (s.serveNotify e offset) := by
  unfold State.serveNotify
  refine trans ?_ (popService _)
  exact trans (of_eq rfl) (respond _ _ _ _ _)

/-- R67: an expired reservation is noted in the entry, and the request keeps its place. -/
theorem execLifetimeExpiry {place : ReservationPlace} (h : Machine.execLifetimeExpiry place s = .next t) :
    Served s t := by
  obtain ⟨i, rfl | rfl⟩ := execLifetimeExpiry_cases h
  · obtain h | ⟨e, he, -, h⟩ := s.expireService_cases i <;> rw [h]
    · exact of_eq rfl
    · refine of_requests ?_
      obtain ⟨hi, rfl⟩ := List.getElem?_eq_some_iff.mp he
      change (s.target.service.set i _).map _ = s.target.service.map _
      rw [List.map_set]
      have hget : (s.target.service[i]).request = (s.target.service.map fun e => e.request)[i]'(by simpa using hi) := by
        simp
      dsimp only
      rw [hget, List.set_getElem_self]
  · obtain h | ⟨r, -, -, h⟩ := s.expireResponse_cases i <;> rw [h] <;> exact of_eq rfl

theorem hostStep (h : HostStep s t) : Served s t := by
  cases h with
  | frame h => exact of_eq (by rw [h.target])
  | joined => exact of_eq rfl
  | left => exact of_eq rfl
  | aborted => exact of_nil rfl

/-- R25: a frame of another station joins nothing; a duplicate empties the queue. -/
theorem receive (s : State) (f : Frame) (sender : Option Origin) : Served s (s.receive f sender) := by
  have hpresence : (s.presenceHeard f.source).target = s.target := by
    unfold State.presenceHeard
    split <;> rfl
  have decided : ∀ r : ReqFrame, ∀ u : State, (u.decideClaim r).1.target = u.target := fun r u => by
    unfold State.decideClaim
    repeat' split
    all_goals rfl
  have matched : ∀ c : CplFrame, ∀ u : State, (u.ortCompletion c).target = u.target := fun c u => by
    unfold State.ortCompletion State.matchedCompletion
    dsimp only
    repeat' split
    all_goals rfl
  unfold State.receive State.duplicate State.handByKind
  dsimp only
  split
  · exact of_eq (congrArg TargetEngine.service hpresence)
  · split
    · split
      · exact of_eq (congrArg TargetEngine.service hpresence)
      · exact of_nil rfl
    · refine of_eq ((congrArg TargetEngine.service ?_).trans (congrArg TargetEngine.service hpresence))
      split
      · rfl
      · split
        · exact decided _ _
        · rfl
      · split
        · exact matched _ _
        · rfl

theorem receiveCorrupt (s : State) (slotFollows : Bool) : Served s (s.receiveCorrupt slotFollows) := by
  unfold State.receiveCorrupt
  dsimp only
  split <;> exact of_eq rfl

theorem frameReceived {f : Frame}
    (h : t = s ∨ (s.receives = true ∧ (t = s.receive f none ∨ t = s.receiveCorrupt true))) : Served s t := by
  obtain rfl | ⟨-, rfl | rfl⟩ := h
  exacts [of_eq rfl, receive s f none, receiveCorrupt s true]

theorem execOwnFrameSent (h : Machine.execOwnFrameSent s = .next t) : Served s t := by
  obtain rfl | ⟨tx, -, ⟨-, rfl⟩ | ⟨-, rfl⟩ | ⟨-, -, rfl⟩⟩ := execOwnFrameSent_cases h
  · exact of_eq rfl
  · exact trans (of_eq rfl) (receive ({ s with tif := Tif.busyWith none } : State).ownTransmission _ _)
  · exact trans (of_eq rfl) (receive ({ s with tif := Tif.busyWith none } : State) _ _)
  · exact of_eq rfl

theorem execCollision (h : Machine.execCollision s = .next t) : Served s t := by
  obtain rfl | ⟨-, -, rfl⟩ | ⟨-, -, rfl⟩ := execCollision_cases h
  · exact of_eq rfl
  · by_cases hc : s.abandoned.access.collisions < 3
    · rw [State.accessCollision_counted hc]
      exact of_eq rfl
    · rw [State.accessCollision_limit (Nat.not_lt.mp hc)]
      exact of_nil rfl
  · exact of_eq rfl

theorem handOutcome (s : State) (sender : Option Origin) (out : SlotOutcome) :
    (s.handOutcome sender out).target.service = s.target.service := by
  unfold State.handOutcome State.requestOutcome State.completionOutcome
  dsimp only
  repeat' split
  all_goals rfl

theorem execContentionSlot {slot : Fin 48} (h : Machine.execContentionSlot slot s = .next t) : Served s t := by
  obtain rfl | ⟨-, -, rfl⟩ := execContentionSlot_cases slot s t h
  · exact of_eq rfl
  · obtain ⟨tx, -, -, h⟩ | h := s.beginSlot_cases slot <;> rw [h]
    · unfold State.startFrame
      cases tx.origin <;> exact of_eq rfl
    · exact of_eq rfl

end Served

/-- R31, R59: what the end of a slot does to the service queue. -/
theorem execSlotEnd_served {cells : SlotCells} {s t : State} (h : execSlotEnd cells s = .next t) :
    Served s t ∨ ∃ e c dest, cells.resolve = .accept s.ctl.number ∧ s.tif.exchange = some e ∧ e.begun = true
      ∧ e.mark = .claim c ∧ c.decision = .accept dest ∧ t.requests = s.requests ++ [c.frame] := by
  obtain rfl | ⟨e, u, he, hb, rfl, rfl⟩ := execSlotEnd_cases h
  · exact .inl (.of_eq rfl)
  · have hservice := Served.handOutcome (s.readBack e.mark cells.resolve) e.sender cells.resolve
    obtain hr | ⟨c, -, -, hr⟩ | ⟨c, dest, hm, hd, hout, -, hr⟩ := s.readBack_cases e.mark cells.resolve <;>
      rw [hr] at hservice ⊢
    · exact .inl (.of_eq hservice)
    · exact .inl (.of_eq hservice)
    · refine .inr ⟨e, c, dest, hout, he, hb, hm, hd, ?_⟩
      rw [State.requests, hservice, State.acceptRequest_eq]
      simp [State.requests]

/-- R60, R71: every command but SLOT_END adds no request. -/
theorem exec_served {i : Instr} {s t : State} (hi : ∀ cells, i ≠ .slotEnd cells) (h : exec i s = .next t) :
    Served s t := by
  cases i
  case slotEnd cells => exact absurd rfl (hi cells)
  case pinReset => cases h; exact .of_nil rfl
  case resetRelease => obtain rfl | rfl := execResetRelease_cases h <;> exact .of_eq rfl
  case endOfLoading eeprom straps =>
    obtain rfl | ⟨-, -, rfl⟩ := execEndOfLoading_cases h
    · exact .of_eq rfl
    · obtain ⟨f, -, h⟩ | ⟨-, h⟩ := s.endOfLoading_cases eeprom straps <;> rw [h] <;> exact .of_eq rfl
  case hostFrameStart => obtain rfl | rfl := execHostFrameStart_cases h <;> exact .of_eq rfl
  case hostFrameEnd =>
    obtain rfl | rfl | rfl | rfl | rfl | rfl := execHostFrameEnd_cases h
    case inr.inr.inr.inr.inr => exact .of_nil rfl
    all_goals exact .of_eq rfl
  case contentionSlot slot => exact .execContentionSlot h
  case roundOpen => obtain rfl | ⟨-, -, rfl⟩ := execRoundOpen_cases s t h <;> exact .of_eq rfl
  case slotBegin => obtain rfl | ⟨e, -, -, rfl⟩ := execSlotBegin_cases h <;> exact .of_eq rfl
  case ownFrameSent => exact .execOwnFrameSent h
  case collision => exact .execCollision h
  case requestFrameReceived f => exact .frameReceived (execFrameReceived_cases (.inl ⟨f, rfl, rfl⟩) h)
  case completionFrameReceived f => exact .frameReceived (execFrameReceived_cases (.inr ⟨f, rfl, rfl⟩) h)
  case beaconReceived src =>
    obtain rfl | ⟨-, rfl⟩ := execBeaconReceived_cases h
    exacts [.of_eq rfl, .receive s _ _]
  case corruptReception slotFollows =>
    obtain rfl | ⟨-, rfl⟩ := execCorruptReception_cases h
    exacts [.of_eq rfl, .receiveCorrupt s _]
  case presenceTimeout st => obtain rfl | ⟨-, -, rfl⟩ := execPresenceTimeout_cases h <;> exact .of_eq rfl
  case beaconTimerExpiry => obtain rfl | ⟨-, rfl⟩ := execBeaconTimerExpiry_cases h <;> exact .of_eq rfl
  case joinHoldoffExpiry => obtain rfl | ⟨-, -, rfl⟩ := execJoinHoldoffExpiry_cases h <;> exact .of_eq rfl
  case holdoffExpiry g => obtain rfl | ⟨-, rfl⟩ := execHoldoffExpiry_cases h <;> exact .of_eq rfl
  case completionTimeout g => obtain rfl | ⟨-, rfl⟩ := execCompletionTimeout_cases h <;> exact .of_eq rfl
  case quarantineExpiry g => obtain rfl | ⟨-, rfl⟩ := execQuarantineExpiry_cases h <;> exact .of_eq rfl
  case lifetimeExpiry place => exact .execLifetimeExpiry h
  case issue => obtain rfl | ⟨d, rest, g, -, -, -, rfl⟩ := execIssue_cases h <;> exact .of_eq rfl
  case placeRecord =>
    obtain rfl | ⟨g, rest, st, -, -, -, rfl⟩ := execPlaceRecord_cases h
    · exact .of_eq rfl
    · unfold State.placeRecord State.retired
      dsimp only
      split <;> exact .of_eq rfl
  case memoryGrant => obtain rfl | ⟨op, -, -, -, rfl⟩ := execMemoryGrant_cases s t h <;> exact .of_eq rfl
  case wordAccessComplete other =>
    obtain rfl | ⟨op, -, -, rfl⟩ := execWordAccessComplete_cases h
    exacts [.of_eq rfl, .completeAccess s op other]
  case waitTimerExpiry =>
    obtain rfl | ⟨op, -, -, rfl⟩ := execWaitTimerExpiry_cases s t h
    exacts [.of_eq rfl, .endOperation s op true]
  case notifyService =>
    obtain rfl | ⟨e, rest, offset, -, -, rfl⟩ := execNotifyService_cases h
    exacts [.of_eq rfl, .serveNotify s e offset]
  case endOfDraining =>
    obtain rfl | ⟨-, -, rfl⟩ := execEndOfDraining_cases h
    · exact .of_eq rfl
    · exact .of_eq (congrArg TargetEngine.service s.freeStale_target)
  case hintPulseEnd => cases h; exact .of_eq rfl
  case startDelimiterSeen => obtain rfl | ⟨-, -, rfl⟩ := execStartDelimiterSeen_cases h <;> exact .of_eq rfl
  case hostByteComplete b => exact .hostStep (.execHostByteComplete h)
  all_goals exact .hostStep (.exec_hostRow rfl h)

/-- Settles O59. -/
theorem claimLaw : Obligations.ClaimLaw := by
  intro i s t h
  by_cases hi : ∃ cells, i = .slotEnd cells
  · obtain ⟨cells, rfl⟩ := hi
    refine (execSlotEnd_served h).imp id ?_
    rintro ⟨e, c, dest, hout, he, hb, hm, hd, hreq⟩
    refine ⟨cells, e, c, dest, rfl, Bool.eq_false_iff.mpr fun hc => ?_, hout, he, hb, hm, hd, hreq⟩
    rw [SlotCells.resolve_corrupt hc] at hout
    cases hout
  · exact .inl (exec_served (fun cells hcells => hi ⟨cells, hcells⟩) h)

end Sys2Proof.Machine
end

section
/-! PROOFS. The laws hold right after reset (O56). -/

namespace Sys2Proof.Machine

theorem targetLaw_reset : TargetLaw State.reset where
  counted := rfl
  reservations := by decide
  places := by decide
  held := rfl
  mailbox := by decide
  entries := nofun
  inFlight := nofun
  offTrunk _ := ⟨rfl, rfl⟩

theorem runLaw_reset : RunLaw State.reset where
  held := rfl
  presence := ⟨fun h => absurd rfl h, nofun, iff_of_false (not_not.mpr rfl) nofun, nofun⟩
  table h := absurd rfl h
  waitLimit := by decide
  holdoff := iff_of_false nofun nofun
  collisions := ⟨Nat.zero_le _, nofun⟩
  queues := ⟨Nat.zero_le _, Nat.zero_le _⟩
  events := ⟨by decide, fun _ => rfl, fun _ => ⟨rfl, rfl⟩⟩
  tif := .busyWith fun _ => rfl
  memory := rfl

/-- Settles O56. -/
theorem lawsHoldAtReset : Obligations.LawsHoldAtReset where
  target := targetLaw_reset
  ort := .of_reset rfl rfl rfl rfl
  station := runLaw_reset.stationLaw
  sendOrder := .of_silent rfl

end Sys2Proof.Machine
end

section
/-! PROOFS. Chapter 10 (host frames): the edges of HSEL# (O8), the end of a take frame (O9) and of a RESTART's
(O10), and what each completed byte does (O11). -/

namespace Sys2Proof.Machine

variable {s : State}

/-! ### The edges of HSEL# (R154, R156) -/

/-- R154: the falling edge starts a frame. -/
theorem exec_hostFrameStart_of_high (h : s.host.selected = false) :
    exec .hostFrameStart s = .next
      { s with
        host := { HostPort.atRest with selected := true, decoder := if s.held then .idle else .command } } := by
  change execHostFrameStart s = _
  rw [execHostFrameStart, h]
  rfl

/-- With HSEL# low there is no falling edge. -/
theorem exec_hostFrameStart_of_low (h : s.host.selected = true) : exec .hostFrameStart s = .next s := by
  change execHostFrameStart s = _
  rw [execHostFrameStart, h]
  rfl

/-- With HSEL# high there is no rising edge. -/
theorem exec_hostFrameEnd_of_high (h : s.host.selected = false) : exec .hostFrameEnd s = .next s := by
  change execHostFrameEnd s = _
  rw [execHostFrameEnd, h]
  rfl

/-- R170: a frame that a pin reset interrupted ends and is not counted. -/
theorem exec_hostFrameEnd_of_idle (h : s.host.selected = true) (hd : s.host.decoder = .idle) :
    exec .hostFrameEnd s = .next { s with host := HostPort.atRest } := by
  change execHostFrameEnd s = _
  rw [execHostFrameEnd, h, hd]
  rfl

/-- R156: a frame whose command was not taken is discarded and counted. -/
theorem exec_hostFrameEnd_of_not_taken (h : s.host.selected = true)
    (hd : s.host.decoder = .command ∨ s.host.decoder = .discard ∨ ∃ c got, s.host.decoder = .operands c got) :
    exec .hostFrameEnd s = .next { s.onEvents EventUnit.countHostFrameError with host := HostPort.atRest } := by
  change execHostFrameEnd s = _
  obtain hd | hd | ⟨c, got, hd⟩ := hd <;> rw [execHostFrameEnd, h, hd] <;> rfl

/-- R157: the end of a frame in RESPONSE. -/
theorem exec_hostFrameEnd_of_response (h : s.host.selected = true) (hd : s.host.decoder = .response) :
    exec .hostFrameEnd s = .next s.takenFrameEnds := by
  change execHostFrameEnd s = _
  rw [execHostFrameEnd, h, hd]
  rfl

/-- Settles O8: one equation for each edge and decoder state. -/
theorem hostFrameEdges : Obligations.HostFrameEdges := fun _ =>
  ⟨exec_hostFrameStart_of_high,
    fun h => ⟨exec_hostFrameStart_of_low h, exec_hostFrameEnd_of_idle h, exec_hostFrameEnd_of_not_taken h⟩,
    exec_hostFrameEnd_of_high⟩

/-! ### The end of a frame in RESPONSE (R157, R168, R171) -/

/-- R157: a frame that took anything but a record or RESTART just ends. -/
theorem State.takenFrameEnds_of_other (hc : s.host.taken ≠ some (.takeCompletion, .done))
    (hn : s.host.taken ≠ some (.takeNotify, .done)) (hr : s.host.taken ≠ some (.restart, .done)) :
    s.takenFrameEnds = { s with host := HostPort.atRest } := by
  unfold State.takenFrameEnds
  split
  case h_1 h => exact absurd h hc
  case h_2 h => exact absurd h hn
  case h_3 h => exact absurd h hr
  case h_4 => rfl

/-- R157: the end of a TAKE_COMPLETION answered DONE. -/
theorem State.takenFrameEnds_takeCompletion (h : s.host.taken = some (.takeCompletion, .done)) :
    s.takenFrameEnds =
      { s with
        completion :=
          { s.completion with
            queue := if s.host.reply.length ≤ s.host.clocked then s.completion.queue.tail else s.completion.queue }
        host := HostPort.atRest } := by
  rw [State.takenFrameEnds, h]
  dsimp only
  rw [HostPort.recordWhole]
  by_cases hw : s.host.reply.length ≤ s.host.clocked
  · rw [if_pos (decide_eq_true hw), if_pos hw]
  · rw [if_neg (by simpa using hw), if_neg hw]

/-- R157: the end of a TAKE_NOTIFY answered DONE. -/
theorem State.takenFrameEnds_takeNotify (h : s.host.taken = some (.takeNotify, .done)) :
    s.takenFrameEnds =
      { s with
        mailbox :=
          { s.mailbox with
            records := if s.host.reply.length ≤ s.host.clocked then s.mailbox.records.tail else s.mailbox.records }
        host := HostPort.atRest } := by
  rw [State.takenFrameEnds, h]
  dsimp only
  rw [HostPort.recordWhole]
  by_cases hw : s.host.reply.length ≤ s.host.clocked
  · rw [if_pos (decide_eq_true hw), if_pos hw]
  · rw [if_neg (by simpa using hw), if_neg hw]

/-- R171: the end of a RESTART answered DONE. -/
theorem State.takenFrameEnds_restart (h : s.host.taken = some (.restart, .done)) :
    s.takenFrameEnds = { s.resetBlocks s.events.lastFault with host := HostPort.atRest } := by
  rw [State.takenFrameEnds, h]

/-- Settles O9: by what the frame took. -/
theorem frameEndRemovesATakenRecord : Obligations.FrameEndRemovesATakenRecord := by
  intro s hlow hresponse
  have hend := exec_hostFrameEnd_of_response hlow hresponse
  refine ⟨fun h => ?_, fun h => ?_, fun hc hn hr => ?_⟩
  · rw [hend, State.takenFrameEnds_takeCompletion h]
    rfl
  · rw [hend, State.takenFrameEnds_takeNotify h]
    rfl
  · rw [hend, State.takenFrameEnds_of_other hc hn hr]
    rfl

/-- R168: RESTART is permitted in every station state and answered DONE. -/
theorem exec_restart_of_openFor (h : s.openFor .restart []) : exec .restart s = .next (s.answer .restart .done []) := by
  rw [exec_of_openFor (i := .restart) rfl rfl h, State.takeByCode, State.takeRestart, State.ifPermitted_of_permitted]
  cases s.ctl.station <;> rfl

/-- R170: a pin reset takes the blocks to their reset values and holds the station. -/
theorem exec_pinReset (s : State) : exec .pinReset s = .next { s.resetBlocks none with held := true } := rfl

/-- Settles O10: both resets are `State.resetBlocks`. -/
theorem restartActsAtTheFrameEnd : Obligations.RestartActsAtTheFrameEnd := by
  intro s
  refine ⟨fun h => exec_restart_of_openFor h, fun _ hlow hresponse htaken => ⟨_, exec_pinReset s, ?_⟩⟩
  rw [exec_hostFrameEnd_of_response hlow hresponse, State.takenFrameEnds_restart htaken]
  rfl

/-! ### Completed bytes (R154, R155) -/

/-- A held station takes no byte. -/
theorem exec_hostByteComplete_of_held (h : s.held = true) (b : Byte) : exec (.hostByteComplete b) s = .next s := by
  change execHostByteComplete b s = _
  rw [execHostByteComplete, State.unlessHeld, if_pos h]

/-- R154: a station that is not held takes the byte in its decoder. -/
theorem exec_hostByteComplete_of_free (h : s.held = false) (b : Byte) :
    exec (.hostByteComplete b) s = .next (s.byteCompleted b) := by
  change execHostByteComplete b s = _
  rw [execHostByteComplete, State.unlessHeld, if_neg (by simp [h])]

/-- R154: in IDLE and in DISCARD a byte is passed over. -/
theorem State.byteCompleted_of_deaf (h : s.host.decoder = .idle ∨ s.host.decoder = .discard) (b : Byte) :
    s.byteCompleted b = s := by
  obtain h | h := h <;> rw [State.byteCompleted, h]

/-- R155: in RESPONSE a byte is clocked out. -/
theorem State.byteCompleted_of_response (h : s.host.decoder = .response) (b : Byte) :
    s.byteCompleted b = { s with host := { s.host with clocked := s.host.clocked + 1 } } := by
  rw [State.byteCompleted, h]

/-- R154: in COMMAND a code that names no command leads to DISCARD. -/
theorem State.byteCompleted_of_unknown (h : s.host.decoder = .command) {b : Byte} (hb : HostCode.ofByte b = none) :
    s.byteCompleted b = { s with host := { s.host with decoder := .discard } } := by
  rw [State.byteCompleted, h]
  dsimp only
  rw [hb]

/-- R154: in COMMAND the code of a command takes it when it has no operands, and begins its operands otherwise. -/
theorem State.byteCompleted_of_code (h : s.host.decoder = .command) (c : HostCode) :
    s.byteCompleted c.byte =
      if c.operandsWhole [] then s.takeByCode c []
      else { s with host := { s.host with decoder := .operands c [] } } := by
  rw [State.byteCompleted, h]
  dsimp only
  rw [HostCode.ofByte_byte]

/-- R154: among the operands a byte takes the command when it is the last, and is kept otherwise. -/
theorem State.byteCompleted_of_operands {c : HostCode} {got : List Byte} (h : s.host.decoder = .operands c got)
    (b : Byte) :
    s.byteCompleted b =
      if c.operandsWhole (got ++ [b]) then s.takeByCode c (got ++ [b])
      else { s with host := { s.host with decoder := .operands c (got ++ [b]) } } := by
  rw [State.byteCompleted, h]

/-- R186: every code lies in 01h..13h. -/
theorem HostCode.ofByte_eq_none {b : Byte} (h : b = 0 ∨ 0x13 < b.toNat) : HostCode.ofByte b = none := by
  cases hc : HostCode.ofByte b with
  | none => rfl
  | some c =>
    obtain rfl := HostCode.byte_of_ofByte hc
    revert h
    cases c <;> decide

/-- R186: a command without operands has none, whatever byte comes first. -/
theorem HostCode.operandCount_eq_zero {c : HostCode} (h : c.operandCount none = 0) (b : Option Byte) :
    c.operandCount b = 0 := by
  cases c <;> simp [HostCode.operandCount] at h ⊢

/-- R186: a command without operands has none, whatever bytes are offered. -/
theorem HostCode.eq_nil_of_operandsWhole {c : HostCode} {ops : List Byte} (hnil : c.operandsWhole [] = true)
    (h : c.operandsWhole ops = true) : ops = [] := by
  have hnone : c.operandCount none = 0 := (of_decide_eq_true hnil : 0 = c.operandCount none).symm
  have hlen : ops.length = c.operandCount ops.head? := of_decide_eq_true h
  exact List.eq_nil_of_length_eq_zero (hlen.trans (HostCode.operandCount_eq_zero hnone _))

/-- R186: operand bytes that are whole have no proper beginning that is whole. -/
theorem HostCode.not_operandsWhole_of_prefix {c : HostCode} {got rest : List Byte}
    (h : c.operandsWhole (got ++ rest) = true) (hrest : rest ≠ []) : c.operandsWhole got = false := by
  cases got with
  | nil =>
    by_contra hnil
    exact hrest (HostCode.eq_nil_of_operandsWhole (by simpa using hnil) h)
  | cons b got =>
    have hcount : (b :: got ++ rest).length = c.operandCount (some b) := of_decide_eq_true h
    have hpos : 0 < rest.length := List.length_pos_of_ne_nil hrest
    refine decide_eq_false fun hgot => ?_
    have hgot : (b :: got).length = c.operandCount (some b) := hgot
    rw [List.length_append] at hcount
    omega

/-- R186: the commands that have operands. -/
theorem HostCode.not_operandsWhole_nil : ∀ c ∈ [HostCode.submit, .ackEvents, .setMask, .setThreshold, .setLineMode,
    .clearCounters, .configRead, .configWrite], c.operandsWhole [] = false := by
  decide

/-- R155: taking a command does not look at the decoder. -/
theorem State.takeByCode_decoder (s : State) (d : Decoder) (c : HostCode) (bs : List Byte) :
    { s with host := { s.host with decoder := d } }.takeByCode c bs = s.takeByCode c bs := by
  cases c
  case submit =>
    simp only [State.takeByCode, State.takeSubmit, State.ifPermitted]
    repeat' split
    all_goals rfl
  all_goals rfl

/-- The operand bytes that follow, completed one after another, take the command. -/
theorem completeBytes_operands {c : HostCode} (s : State) (hheld : s.held = false) (rest : List Byte) :
    ∀ got : List Byte, rest ≠ [] → c.operandsWhole (got ++ rest) = true →
      completeBytes rest { s with host := { s.host with decoder := .operands c got } } =
        .next (s.takeByCode c (got ++ rest)) := by
  induction rest with
  | nil => exact fun _ h _ => absurd rfl h
  | cons b rest ih =>
    intro got _ hwhole
    rw [completeBytes,
      exec_hostByteComplete_of_free (s := { s with host := { s.host with decoder := .operands c got } }) hheld,
      State.byteCompleted_of_operands rfl]
    by_cases hrest : rest = []
    · subst hrest
      rw [if_pos hwhole, State.takeByCode_decoder]
      rfl
    · rw [List.append_cons got b rest] at hwhole ⊢
      rw [HostCode.not_operandsWhole_of_prefix hwhole hrest]
      exact ih (got ++ [b]) hrest hwhole

/-- R154: the code and the operand bytes of a row, completed one after another from COMMAND, have its effect. -/
theorem completeBytes_hostRow {i : Instr} {c : HostCode} {ops refused : List Byte}
    (hrow : hostRow i = some (c, ops, refused)) (hwf : i.wf = true) (hheld : s.held = false)
    (hcommand : s.host.decoder = .command) : completeBytes (c.byte :: ops) s = exec i s := by
  have hwhole : c.operandsWhole ops = true := hostRow_operandsWhole hrow hwf
  rw [exec_of_openFor hrow hwf ⟨hheld, .inl hcommand⟩, completeBytes, exec_hostByteComplete_of_free hheld,
    State.byteCompleted_of_code hcommand]
  by_cases hops : ops = []
  · subst hops
    rw [if_pos hwhole]
    rfl
  · rw [HostCode.not_operandsWhole_of_prefix (got := []) hwhole hops]
    exact completeBytes_operands s hheld ops [] hops hwhole

/-- R155, R156: what HDO carries in a frame whose reply begins with the bytes clocked out before `b`. -/
theorem State.hdo_of_reply (hlow : s.host.selected = true) (hd : s.host.decoder = .response) :
    s.hdo = some (s.host.reply.getD s.host.clocked filler) := by
  rw [State.hdo, if_pos hlow, HostPort.out, hd]

/-- Settles O11: by the decoder state. -/
theorem hostBytesReachTheDecoder : Obligations.HostBytesReachTheDecoder := by
  refine ⟨fun b s => ⟨?deaf, fun hf hd => ?response, fun hf hd hb => ?unknown, fun c hf hd hb hc => ?code,
    fun c got hf hd hne => ?operand⟩, fun i c ops refused s => completeBytes_hostRow, fun s _ => ⟨fun h => ?released,
    fun hlow => ⟨fun h => ?filler, fun hd => ⟨fun before b after hr hn => ?reply, fun hn => ?behind⟩⟩⟩⟩
  case deaf =>
    rintro (h | h)
    · exact exec_hostByteComplete_of_held h b
    · cases hf : s.held
      · rw [exec_hostByteComplete_of_free hf, State.byteCompleted_of_deaf h]
      · exact exec_hostByteComplete_of_held hf b
  case response => rw [exec_hostByteComplete_of_free hf, State.byteCompleted_of_response hd]
  case unknown => rw [exec_hostByteComplete_of_free hf, State.byteCompleted_of_unknown hd (HostCode.ofByte_eq_none hb)]
  case code =>
    rw [exec_hostByteComplete_of_free hf, hb, State.byteCompleted_of_code hd, HostCode.not_operandsWhole_nil c hc]
    rfl
  case operand =>
    rw [exec_hostByteComplete_of_free hf, State.byteCompleted_of_operands hd, if_neg]
    exact fun h => hne (of_decide_eq_true h)
  case released =>
    obtain h | h := h
    · rw [State.hdo, h]
      rfl
    · rw [State.hdo, HostPort.out, h]
      exact ite_self _
  case filler => obtain h | h | ⟨c, got, h⟩ := h <;> rw [State.hdo, if_pos hlow, HostPort.out, h] <;> rfl
  case reply => rw [State.hdo_of_reply hlow hd, hr, ← hn, List.getD_append_right _ _ _ _ le_rfl, Nat.sub_self]; rfl
  case behind => rw [State.hdo_of_reply hlow hd, List.getD_eq_default _ _ hn]; rfl

end Sys2Proof.Machine
end

section
/-! PROOFS. Chapters 9 and 11 (the lifecycle): the queue of commands and the tick (O1, O2), the blocks after a reset
(O3), the pin reset (O4), loading (O6, O7), and the operations of the Event Unit and the ORT that the statements
name (O51). -/

namespace Sys2Proof.Machine

variable {s : State}

/-! ### The queue of commands, and the tick (log entries 1 and 7) -/

/-- Settles O1: the front of the queue is what a step looks at. -/
theorem stepRunsTheFrontCommand : Obligations.StepRunsTheFrontCommand := by
  intro c rest s h
  rw [step, h]

/-- With no command waiting a step lets time pass. -/
theorem step_of_idle (h : s.pending = []) : step s = .next s.idle := by
  rw [step, h]

/-- While an access waits, the rest of its wait limit passes. -/
theorem State.idle_of_waiting {op : MemOp} (h : s.port = some op) (hw : op.wait ≠ 0) : s.idle = s.waitOut op := by
  rw [State.idle, h]
  exact if_neg hw

/-- With no access waiting, one tick passes. -/
theorem State.idle_of_settled (h : ∀ op, s.port = some op → op.wait = 0) : s.idle = s.tick := by
  unfold State.idle
  split
  · next op hp => exact if_pos (h op hp)
  · rfl

/-- R170: a held station counts no tick. -/
theorem State.tick_of_held (h : s.held = true) : s.tick = s := by
  rw [State.tick, if_pos h]

theorem EntryState.tick_eq (e : EntryState) :
    e.tick =
      match e with
      | .hold k => .hold (k - 1)
      | .awaiting k => .awaiting (k - 1)
      | .stale k => .stale (k - 1)
      | e => e := by
  cases e <;> rfl

theorem Presence.tick_eq (p : Presence) :
    p.tick =
      match p with
      | .present k => .present (k - 1)
      | p => p := by
  cases p <;> rfl

theorem BeaconTimer.tick_eq (b : BeaconTimer) :
    b.tick =
      match b with
      | .running k => .running (k - 1)
      | b => b := by
  cases b <;> rfl

theorem Reservation.tick_eq (r : Reservation) :
    r.tick =
      match r with
      | .live k => .live (k - 1)
      | r => r := by
  cases r <;> rfl

/-- Settles O2: by what the memory port waits for. -/
theorem idleStepIsOneTick : Obligations.IdleStepIsOneTick := by
  intro s hidle
  refine ⟨fun op hop hw => ?_, fun hw hheld => ?_, fun hw hheld => ⟨s.tick, ?_, ?_⟩⟩
  · rw [step_of_idle hidle, State.idle_of_waiting hop hw]
    rfl
  · rw [step_of_idle hidle, State.idle_of_settled hw, State.tick_of_held hheld]
  · rw [step_of_idle hidle, State.idle_of_settled hw]
  · rw [State.tick, if_neg (by simp [hheld])]
    refine ⟨rfl, fun n => ?_, BeaconTimer.tick_eq _, ?_, rfl, fun g => ?_, rfl⟩
    · simp only [Fin.getElem_fin, Vector.getElem_map]
      exact Presence.tick_eq _
    · exact List.map_congr_left fun e _ =>
        congrArg (fun r => { e with reservation := r }) (Reservation.tick_eq e.reservation)
    · simp only [State.entry, Fin.getElem_fin, Vector.getElem_map]
      exact congrArg (fun st => { s.ort.entries[g.val] with state := st }) (EntryState.tick_eq _)

/-! ### Resets (R142, R170) -/

/-- Settles O3: the reset state is a concrete one. -/
theorem blocksAfterReset : Obligations.BlocksAfterReset := by
  unfold Obligations.BlocksAfterReset
  decide

/-- R170: the release lets a held station go. -/
theorem exec_resetRelease (s : State) : exec .resetRelease s = .next { s with held := false } := by
  change execResetRelease s = _
  unfold execResetRelease
  split
  · rfl
  · next h =>
    have hheld : s.held = false := by simpa using h
    rw [← hheld]

/-- R140: a reset cuts no access short at an idle port. -/
theorem State.resetBlocks_of_idle (h : s.port = none) (f : Option FaultRecord) :
    (s.resetBlocks f).localMem = s.localMem ∧ (s.resetBlocks f).freeIndex = s.freeIndex := by
  simp [State.resetBlocks, h]

/-- R140: a reset cuts the access under way short. -/
theorem State.resetBlocks_of_access {op : MemOp} (h : s.port = some op) (f : Option FaultRecord) :
    (s.resetBlocks f).localMem = op.cutMemory s.freeIndex s.localMem
      ∧ (s.resetBlocks f).freeIndex = if op.writing then s.freeIndex + 1 else s.freeIndex := by
  simp [State.resetBlocks, h]

/-- Settles O4: what local memory keeps is the law of an access cut short (`MemOp.read_cutMemory`). -/
theorem pinResetHoldsTheStation : Obligations.PinResetHoldsTheStation := by
  intro s
  refine ⟨⟨_, _, exec_pinReset s, fun hmem a => ?_, fun hread => ?_⟩, exec_resetRelease s⟩
  · cases hport : s.port with
    | none => exact .inl (by rw [(State.resetBlocks_of_idle hport none).1])
    | some op =>
      rw [(State.resetBlocks_of_access hport none).1]
      exact (MemOp.read_cutMemory hmem s.freeIndex a).imp_right
        fun ⟨hwriting, hcell⟩ => ⟨op, _, rfl, hwriting, hcell, rfl⟩
  · cases hport : s.port with
    | none => exact State.resetBlocks_of_idle hport none
    | some op =>
      obtain ⟨hm, hk⟩ := State.resetBlocks_of_access hport none
      rw [hm, hk, MemOp.cutMemory, hread op hport]
      exact ⟨rfl, rfl⟩

/-! ### The load result (R173, R188) -/

/-- A sum of bytes, formed modulo 256. -/
theorem toNat_foldl_add (bs : List Byte) (b : Byte) :
    (bs.foldl (· + ·) b).toNat = (b.toNat + (bs.map BitVec.toNat).sum) % 256 := by
  induction bs generalizing b with
  | nil => exact (Nat.mod_eq_of_lt b.isLt).symm
  | cons c bs ih =>
    rw [List.foldl_cons, ih, BitVec.toNat_add, List.map_cons, List.sum_cons]
    omega

/-- R188: the image's sum is 0 exactly when the sum of its 112 bytes is a multiple of 256. -/
theorem imageSum_eq_zero_iff (image : List Byte) :
    imageSum image = 0 ↔ ((List.range 112).map (fun i => (image.getD i 0xFF).toNat)).sum % 256 = 0 := by
  have hsum : (imageSum image).toNat = ((List.range 112).map (fun i => (image.getD i 0xFF).toNat)).sum % 256 := by
    rw [imageSum, toNat_foldl_add, imageRead, List.map_map]
    change (0 + _) % 256 = _
    rw [Nat.zero_add]
    rfl
  rw [← hsum, ← BitVec.toNat_inj]
  rfl

/-- Every image is judged in the order of the table. -/
theorem loadResultOf_some (image : List Byte) :
    (image.getD 0 0xFF ≠ 0xA6 → loadResultOf (some image) = .blank) ∧
    (image.getD 0 0xFF = 0xA6 → imageSum image ≠ 0 → loadResultOf (some image) = .corrupt) ∧
    (image.getD 0 0xFF = 0xA6 → imageSum image = 0 → loadResultOf (some image) = .loaded) := by
  refine ⟨fun h => if_pos h, fun h hs => ?_, fun h hs => ?_⟩
  · exact (if_neg (not_not_intro h)).trans (if_pos hs)
  · exact (if_neg (not_not_intro h)).trans (if_neg (not_not_intro hs))

/-! ### The end of loading (R174, R175) -/

/-- R175: the loader of a station in LOADING ends. -/
theorem exec_endOfLoading (hheld : s.held = false) (hst : s.ctl.station = .loading) (e : Option (List Byte))
    (straps : StationNo) : exec (.endOfLoading e straps) s = .next (s.endOfLoading e straps) := by
  change execEndOfLoading e straps s = _
  rw [execEndOfLoading, State.unlessHeld, if_neg (by simp [hheld]), if_pos hst]

/-- R174: without a LOADED image the straps and the defaults. -/
theorem State.configure_of_not_loaded {e : Option (List Byte)} (h : loadResultOf e ≠ .loaded) (s : State)
    (straps : StationNo) :
    s.configure e straps =
      { s with
        ctl := { s.ctl with number := straps, ct := ctDefault, waitLimit := waitLimitDefault
                            loadResult := loadResultOf e }
        windows := Vector.replicate 8 (Window.fresh WindowConfig.default)
        presence := { s.presence with table := presenceCleared straps }
        events := { s.events with lineMode := .level, threshold := 1 } } := by
  cases e with
  | none => rfl
  | some image =>
    cases hres : loadResultOf (some image) with
    | loaded => exact absurd hres h
    | absent | blank | corrupt => simp [State.configure, hres]

/-- R175: an image that is not LOADED does not join. -/
theorem autoJoinApplies_of_not_loaded {e : Option (List Byte)} (h : loadResultOf e ≠ .loaded) :
    autoJoinApplies e = false := by
  cases e with
  | none => rfl
  | some image => simp [autoJoinApplies, h]

/-- R143, R149: in LEVEL mode a cause drives no pulse. -/
theorem EventUnit.raiseFault_of_level {u : EventUnit} (h : u.lineMode = .level) (c : FaultCause) (r : FaultRecord) :
    u.raiseFault c r =
      { u with
        pending := { u.pending with fault := true }
        faultCauses := u.faultCauses.add c
        lastFault := some r } := by
  simp [EventUnit.raiseFault, EventUnit.pendFault, EventUnit.pulseOnGain, h]

/-- R143, R149: a masked category gains no pulse. -/
theorem EventUnit.raiseFault_of_masked {u : EventUnit} (h : u.mask.fault = true) (c : FaultCause) (r : FaultRecord) :
    u.raiseFault c r =
      { u with
        pending := { u.pending with fault := true }
        faultCauses := u.faultCauses.add c
        lastFault := some r } := by
  simp [EventUnit.raiseFault, EventUnit.pendFault, EventUnit.pulseOnGain, h]

/-- Settles O6: by the load result. -/
theorem loadingWithoutAnImage : Obligations.LoadingWithoutAnImage := by
  refine ⟨⟨rfl, fun image => ?_⟩, fun e straps s hheld hst hres => ?_⟩
  · obtain ⟨hblank, hcorrupt, hloaded⟩ := loadResultOf_some image
    refine ⟨hblank, fun h hs => hcorrupt h ?_, fun h hs => hloaded h ?_⟩
    · exact fun h0 => hs ((imageSum_eq_zero_iff image).mp h0)
    · exact (imageSum_eq_zero_iff image).mpr hs
  · rw [exec_endOfLoading hheld hst, State.endOfLoading, State.configure_of_not_loaded hres]
    dsimp only
    by_cases hc : loadResultOf e = .corrupt
    · rw [if_pos hc, if_pos hc, State.onEvents, EventUnit.raiseFault_of_level rfl]
      rfl
    · rw [if_neg hc, if_neg hc, autoJoinApplies_of_not_loaded hres]
      rfl

/-! ### A LOADED image (R174, R187) -/

/-- R174: a LOADED image gives the working configuration. -/
theorem State.configure_of_loaded {image : List Byte} (h : loadResultOf (some image) = .loaded) (s : State)
    (straps : StationNo) :
    s.configure (some image) straps =
      { s with
        ctl := { s.ctl with number := if imageOverride image = true then imageNumber image else straps
                            ct := imageCt image, waitLimit := imageWaitLimit image, loadResult := .loaded }
        windows := Vector.ofFn (imageWindow image)
        presence :=
          { s.presence with
            table := presenceCleared (if imageOverride image = true then imageNumber image else straps) }
        events := { s.events with lineMode := imageLineMode image, threshold := imageThreshold image } } := by
  simp only [State.configure, h, true_and]

/-- R175: a LOADED image joins when its auto-join flag is set. -/
theorem autoJoinApplies_of_loaded {image : List Byte} (h : loadResultOf (some image) = .loaded) :
    autoJoinApplies (some image) = imageAutoJoin image := by
  simp [autoJoinApplies, h]

/-- R3: the windows of an image have no counts to clear. -/
theorem clearWindowCounts_image (image : List Byte) :
    clearWindowCounts (Vector.ofFn (imageWindow image)) = Vector.ofFn (imageWindow image) := by
  ext i hi
  all_goals simp [clearWindowCounts, imageWindow, Window.fresh]

/-- R187: two bytes as one number. -/
theorem toNat_append_byte (a b : Byte) : (a ++ b).toNat = 256 * a.toNat + b.toNat := by
  rw [BitVec.toNat_append, ← Nat.shiftLeft_add_eq_or_of_lt b.isLt, Nat.shiftLeft_eq]
  omega

theorem imageCt_toNat (image : List Byte) :
    (imageCt image).toNat = (256 * (imageByte image 2).toNat + (imageByte image 3).toNat) % 4096 := by
  rw [imageCt, BitVec.extractLsb'_toNat, toNat_append_byte, Nat.shiftRight_zero]

theorem imageWaitLimit_toNat (image : List Byte) :
    (imageWaitLimit image).toNat =
      if 1 ≤ (imageByte image 4).toNat ∧ (imageByte image 4).toNat ≤ 15 then (imageByte image 4).toNat else 8 := by
  rw [imageWaitLimit]
  split <;> rfl

theorem imageLineMode_eq (image : List Byte) :
    imageLineMode image = if imageByte image 5 = 1 then .pulse else .level := by
  rw [imageLineMode, lineModeOf]
  by_cases h1 : imageByte image 5 = 1
  · rw [h1]
    rfl
  · rw [if_neg h1, if_neg h1]
    split <;> rfl

/-- R188: a byte of the 112 that the loader reads. -/
theorem byteAt_imageRead (image : List Byte) {i : Nat} (h : i < 112) :
    byteAt (imageRead image) i = imageByte image i := by
  simp [byteAt, imageRead, imageSize, h]

/-- R187: the windows of the image, byte by byte. -/
theorem imageWindow_config (image : List Byte) (w : WindowIdx) :
    let b := imageByte image
    let p := 7 + 13 * w.val
    (imageWindow image w).config =
      { enabled := (b p).getLsbD 7
        kind := if (b p).getLsbD 5 = false ∧ (b p).getLsbD 4 = true then .notify else .memory
        trunkBase := b (p + 1) ++ b (p + 2) ++ b (p + 3) ++ b (p + 4)
        length := b (p + 5) ++ b (p + 6) ++ b (p + 7)
        localBase := b (p + 8) ++ b (p + 9) ++ b (p + 10)
        readRight := (b p).getLsbD 1
        writeRight := (b p).getLsbD 0
        allowed := b (p + 11) ++ b (p + 12) } := by
  have hb : ∀ k, k ≤ 12 → byteAt (imageRead image) (7 + 13 * w.val + k) = imageByte image (7 + 13 * w.val + k) :=
    fun k hk => byteAt_imageRead image (by omega)
  have hb0 := hb 0 (by omega)
  have hkind : ∀ f : Byte, (if f.getLsbD 5 then none else if f.getLsbD 4 then some WindowKind.notify
      else some .memory : Option WindowKind).getD .memory =
      if f.getLsbD 5 = false ∧ f.getLsbD 4 = true then .notify else .memory := by
    intro f
    cases f.getLsbD 5 <;> cases f.getLsbD 4 <;> rfl
  simp only [Nat.add_zero] at hb0
  simp only [imageWindow, Window.fresh, RawWindow.imageConfig, RawWindow.config, RawWindow.kind, RawWindow.ofBytesAt,
    num4At, num3At, num2At, Nat.add_assoc, hkind]
  simp only [← Nat.add_assoc, Nat.reduceAdd]
  simp [hb0, hb]

/-- R174, R187: the station has the settings of the image. -/
structure LoadsImage (image : List Byte) (straps : StationNo) (t : State) : Prop where
  number : t.ctl.number = if imageOverride image = true then imageNumber image else straps
  ct : t.ctl.ct = imageCt image
  waitLimit : t.ctl.waitLimit = imageWaitLimit image
  result : t.ctl.loadResult = .loaded
  windows : t.windows = Vector.ofFn (imageWindow image)
  table : t.presence.table = presenceCleared (if imageOverride image = true then imageNumber image else straps)
  lineMode : t.events.lineMode = imageLineMode image
  threshold : t.events.threshold = imageThreshold image

/-- R175: a LOADED image without the auto-join flag leads to CONFIG. -/
theorem State.endOfLoading_of_no_autoJoin {image : List Byte} (h : loadResultOf (some image) = .loaded)
    (hauto : imageAutoJoin image = false) (s : State) (straps : StationNo) :
    s.endOfLoading (some image) straps = (s.configure (some image) straps).toConfig := by
  rw [State.endOfLoading, autoJoinApplies_of_loaded h, hauto, h]
  rfl

/-- R175, R177: a LOADED image with the auto-join flag joins when the JOIN checks pass. -/
theorem State.endOfLoading_of_valid {image : List Byte} (h : loadResultOf (some image) = .loaded)
    (hauto : imageAutoJoin image = true) (s : State) (straps : StationNo)
    (hvalid : joinFault (Vector.ofFn (imageWindow image)) (imageCt image) = none) :
    s.endOfLoading (some image) straps = (s.configure (some image) straps).enterJoining := by
  rw [State.endOfLoading, autoJoinApplies_of_loaded h, hauto, h, if_neg (by decide), if_pos rfl,
    State.configure_of_loaded h]
  dsimp only
  rw [hvalid]

/-- R175: a LOADED image with the auto-join flag that fails a JOIN check raises JOIN_INVALID. -/
theorem State.endOfLoading_of_invalid {image : List Byte} (h : loadResultOf (some image) = .loaded)
    (hauto : imageAutoJoin image = true) (s : State) (straps : StationNo) {reason : JoinReason} {w : Option WindowIdx}
    (hinvalid : joinFault (Vector.ofFn (imageWindow image)) (imageCt image) = some (reason, w)) :
    s.endOfLoading (some image) straps =
      ((s.configure (some image) straps).onEvents (fun e =>
        e.raiseFault .joinInvalid ⟨.joinInvalid, .loading, .join reason w⟩)).toConfig := by
  rw [State.endOfLoading, autoJoinApplies_of_loaded h, hauto, h, if_neg (by decide), if_pos rfl,
    State.configure_of_loaded h]
  dsimp only
  rw [hinvalid]

/-- R174: the end of loading leaves the settings of the image, whichever state it leads to. -/
theorem State.endOfLoading_loadsImage {image : List Byte} (h : loadResultOf (some image) = .loaded) (s : State)
    (straps : StationNo) : LoadsImage image straps (s.endOfLoading (some image) straps) := by
  cases hauto : imageAutoJoin image with
  | false =>
    rw [State.endOfLoading_of_no_autoJoin h hauto, State.configure_of_loaded h]
    exact ⟨rfl, rfl, rfl, rfl, rfl, rfl, rfl, rfl⟩
  | true =>
    cases hjoin : joinFault (Vector.ofFn (imageWindow image)) (imageCt image) with
    | none =>
      rw [State.endOfLoading_of_valid h hauto s straps hjoin, State.configure_of_loaded h]
      exact ⟨rfl, rfl, rfl, rfl, clearWindowCounts_image image, rfl, rfl, rfl⟩
    | some fault =>
      rw [State.endOfLoading_of_invalid h hauto s straps hjoin, State.configure_of_loaded h]
      exact ⟨rfl, rfl, rfl, rfl, rfl, rfl, rfl, rfl⟩

theorem LoadsImage.window {image : List Byte} {straps : StationNo} {t : State} (h : LoadsImage image straps t)
    (w : WindowIdx) : t.windows[w] = imageWindow image w := by
  rw [h.windows]
  simp

theorem LoadsImage.presence {image : List Byte} {straps : StationNo} {t : State} (h : LoadsImage image straps t)
    (n : StationNo) : t.presence.table[n] = if n = t.ctl.number then .self else .absent := by
  rw [h.table, h.number]
  simp [presenceCleared]

theorem LoadsImage.number_val {image : List Byte} {straps : StationNo} {t : State} (h : LoadsImage image straps t) :
    t.ctl.number.val =
      if (imageByte image 1).getLsbD 7 = true then (imageByte image 1).toNat % 16 else straps.val := by
  rw [h.number, imageOverride]
  split <;> rfl

/-- Settles O7: by the auto-join flag and the JOIN checks. -/
theorem loadingALoadedImage : Obligations.LoadingALoadedImage := by
  intro image straps s hheld hst hres b
  have law := State.endOfLoading_loadsImage hres s straps
  refine ⟨_, exec_endOfLoading hheld hst _ _, law.number_val, ?_, ?_, law.result, ?_, ?_, fun w => ?_, law.presence,
    fun hauto => ?_, fun hauto hjoin => ?_, fun reason w hauto hjoin hmask => ?_⟩
  · rw [law.ct]
    exact imageCt_toNat image
  · rw [law.waitLimit]
    exact imageWaitLimit_toNat image
  · rw [law.lineMode]
    exact imageLineMode_eq image
  · rw [law.threshold]
    rfl
  · rw [law.window, imageWindow_config]
    exact ⟨rfl, rfl, rfl, rfl, rfl, rfl, rfl, rfl, rfl, rfl, rfl⟩
  · rw [State.endOfLoading_of_no_autoJoin hres hauto, State.configure_of_loaded hres]
    rfl
  · rw [law.windows, law.ct] at hjoin
    rw [State.endOfLoading_of_valid hres hauto s straps hjoin, State.configure_of_loaded hres]
    rfl
  · rw [law.windows, law.ct] at hjoin
    rw [State.endOfLoading_of_invalid hres hauto s straps hjoin, State.configure_of_loaded hres, State.onEvents,
      EventUnit.raiseFault_of_masked (by rw [hmask])]
    rfl

/-! ### The operations of the Event Unit and the ORT (R109, R143, R149 to R152) -/

theorem EventUnit.raiseTrunk_eq (u : EventUnit) (c : TrunkCause) :
    u.raiseTrunk c =
      { u with
        pending := { u.pending with trunk := true }
        pulsing := u.pulseOnGain u.mask.trunk u.pending.trunk
        trunkCauses :=
          { presenceChange := u.trunkCauses.presenceChange || decide (c = .presenceChange)
            windowConflict := u.trunkCauses.windowConflict || decide (c = .windowConflict)
            syncLost := u.trunkCauses.syncLost || decide (c = .syncLost)
            responseDropped := u.trunkCauses.responseDropped || decide (c = .responseDropped) } } := by
  cases c <;> simp [EventUnit.raiseTrunk, EventUnit.pendTrunk, TrunkCauses.add]

theorem EventUnit.raiseFault_eq (u : EventUnit) (c : FaultCause) (r : FaultRecord) :
    u.raiseFault c r =
      { u with
        pending := { u.pending with fault := true }
        pulsing := u.pulseOnGain u.mask.fault u.pending.fault
        faultCauses :=
          { detached := u.faultCauses.detached || decide (c = .detached)
            targetWriteFault := u.faultCauses.targetWriteFault || decide (c = .targetWriteFault)
            localMemoryFault := u.faultCauses.localMemoryFault || decide (c = .localMemoryFault)
            loadFault := u.faultCauses.loadFault || decide (c = .loadFault)
            joinInvalid := u.faultCauses.joinInvalid || decide (c = .joinInvalid)
            joinDuplicate := u.faultCauses.joinDuplicate || decide (c = .joinDuplicate) }
        lastFault := some r } := by
  cases c <;> simp [EventUnit.raiseFault, EventUnit.pendFault, FaultCauses.add]

/-- R66: responses dropped are counted, and raise RESPONSE_DROPPED once. -/
theorem EventUnit.responsesDropped_of_pos (u : EventUnit) {k : Nat} (h : 0 < k) :
    u.responsesDropped k =
      { u.raiseTrunk .responseDropped with
        counters :=
          { u.counters with
            responsesDropped := BitVec.ofNat 16 (min 65535 (u.counters.responsesDropped.toNat + k)) } } := by
  rw [EventUnit.responsesDropped, if_neg (by omega)]
  rfl

/-- Settles O51: one equation for each operation. -/
theorem doneCausesAndCounters : Obligations.DoneCausesAndCounters :=
  ⟨fun _ _ _ _ => rfl, fun u => ⟨rfl, rfl, u.raiseTrunk_eq, u.raiseFault_eq,
    fun _ => u.responsesDropped_of_pos, rfl, rfl, rfl, rfl, rfl⟩⟩

end Sys2Proof.Machine
end

section
/-! PROOFS. Chapters 7, 9 and 10 (the host port's commands): the reports of READ_FAULT and READ_EVENTS (O14), the
records that a take offers (O17), SET_MASK and SET_THRESHOLD (O19), CONFIG_WRITE (O22), LEAVE and the end of
draining (O25). -/

namespace Sys2Proof.Machine

/-! ### Fields in the lower bits of a byte (R186) -/

/-- Bits above place `n` leave what stands below it. -/
theorem toNat_or_mod {a b : Byte} {n : Nat} (h : ∀ i < n, b.getLsbD i = false) :
    (a ||| b).toNat % 2 ^ n = a.toNat % 2 ^ n := by
  refine Nat.eq_of_testBit_eq fun i => ?_
  rw [Nat.testBit_mod_two_pow, Nat.testBit_mod_two_pow, BitVec.testBit_toNat, BitVec.testBit_toNat, BitVec.getLsbD_or]
  by_cases hi : i < n
  · rw [h i hi, Bool.or_false]
  · simp [hi]

/-- A flag at place `i` leaves what stands below it. -/
theorem toNat_or_bitAt_mod (a : Byte) (b : Bool) {i n : Nat} (h : n ≤ i) :
    (a ||| bitAt b i).toNat % 2 ^ n = a.toNat % 2 ^ n :=
  toNat_or_mod fun j hj => by
    rw [getLsbD_bitAt, decide_eq_false (by omega), Bool.and_false]

/-- The lower bits are sent as they are when the open ones stand above them. -/
theorem OutByte.toNat_sent_mod {bits loose : Byte} {n : Nat} (h : ∀ i < n, loose.getLsbD i = false) (free : Byte) :
    (OutByte.sent ⟨bits, loose⟩ free).toNat % 2 ^ n = bits.toNat % 2 ^ n :=
  toNat_or_mod fun i hi => by rw [BitVec.getLsbD_and, h i hi, Bool.and_false]

/-- A number below 256 is read back from its byte. -/
theorem natByte_toNat {k : Nat} (h : k < 256) : (natByte k).toNat = k := Nat.mod_eq_of_lt h

/-- R186: the op code takes the lower three bits alone. -/
theorem Op.getLsbD_byte (o : Op) {i : Nat} (h : 3 ≤ i) : o.byte.getLsbD i = false := by
  have hlt : o.byte.toNat < 2 ^ 3 := by cases o <;> decide
  exact Nat.testBit_lt_two_pow (hlt.trans_le (Nat.pow_le_pow_right (by decide) h))

/-! ### READ_FAULT (R151, R161) -/

/-- R161: what READ_FAULT does. -/
theorem exec_readFault {s : State} (hopen : s.openFor .readFault []) (hs : s.ctl.station ≠ .loading) :
    exec .readFault s = .next (s.answerLoose .readFault .done (faultLayout s.events.lastFault)) := by
  rw [exec_of_openFor (i := .readFault) rfl rfl hopen, State.takeByCode, State.takeReadFault,
    State.ifPermitted_of_loaded rfl hs]

/-- R186: which details have a byte. -/
theorem FaultDetail.byte?_isSome (d : FaultDetail) : d.byte?.isSome = decide (d ≠ .absent) := by
  cases d with
  | join reason w => cases w <;> simp [FaultDetail.byte?]
  | absent | station n | window w => simp [FaultDetail.byte?]

/-- R186: the detail of a failed join, in its two fields. -/
theorem FaultDetail.byte?_join (reason : JoinReason) (w : Option WindowIdx) :
    ∃ b, (FaultDetail.join reason w).byte? = some b
      ∧ b.toNat % 16 = (match w with
          | some w => w.val
          | none => 15)
      ∧ b.toNat / 16 = reason.code := by
  have hcode : reason.code < 8 := by cases reason <;> decide
  cases w with
  | none =>
    refine ⟨_, rfl, ?_⟩
    dsimp only
    rw [natByte_toNat (by omega)]
    omega
  | some w =>
    refine ⟨_, rfl, ?_⟩
    dsimp only
    rw [natByte_toNat (by omega)]
    omega

/-- The flags byte of a record reported. -/
def FaultRecord.flagsByte (r : FaultRecord) : OutByte := ⟨bitAt true 0 ||| bitAt r.detail.byte?.isSome 1, 0xFC⟩

/-- R186: the flags say that there is a record, and whether it has a detail. -/
theorem FaultRecord.getLsbD_flagsByte (r : FaultRecord) (free : Byte) :
    (r.flagsByte.sent free).getLsbD 0 = true
      ∧ (r.flagsByte.sent free).getLsbD 1 = decide (r.detail ≠ .absent) := by
  refine ⟨(OutByte.getLsbD_sent rfl free).trans ?_, (OutByte.getLsbD_sent rfl free).trans ?_⟩
  all_goals
    simp only [BitVec.getLsbD_or, getLsbD_bitAt, FaultDetail.byte?_isSome]
    simp

/-- The detail byte of a record reported. -/
def FaultDetail.outByte (d : FaultDetail) : OutByte :=
  match d.byte? with
  | some b => .exactly b
  | none => .meaningless

theorem FaultDetail.sent_outByte {d : FaultDetail} {b : Byte} (h : d.byte? = some b) (free : Byte) :
    d.outByte.sent free = b := by
  rw [FaultDetail.outByte, h, OutByte.sent_exactly]

/-- R161: the response when there is no record. -/
theorem outBytes_faultLayout_none (k : Nat) :
    outBytes k 0 (faultLayout none) = [(OutByte.mk 0 0xFC).sent (Config.freeByte k 0), filler, filler, filler] := by
  simp only [faultLayout, outBytes_cons, OutByte.sent_exactly]
  rfl

/-- R161: the response when there is a record. -/
theorem outBytes_faultLayout_some (r : FaultRecord) (k : Nat) :
    outBytes k 0 (faultLayout (some r)) =
      [r.flagsByte.sent (Config.freeByte k 0), r.kind.byte, r.station.byte,
        r.detail.outByte.sent (Config.freeByte k 3)] := by
  simp only [faultLayout, outBytes_cons, OutByte.sent_exactly]
  rfl

/-! ### READ_EVENTS (R142, R163) -/

/-- R163: what READ_EVENTS does. -/
theorem exec_readEvents {s : State} (hopen : s.openFor .readEvents []) (hs : s.ctl.station ≠ .loading) :
    exec .readEvents s = .next (s.answerLoose .readEvents .done (eventsLayout s.events)) := by
  rw [exec_of_openFor (i := .readEvents) rfl rfl hopen, State.takeByCode, State.takeReadEvents,
    State.ifPermitted_of_loaded rfl hs]

/-- R186: the pending flags in the lower half of a byte, the masks in the upper. -/
theorem Categories.getLsbD_pair (p m : Categories) :
    (p.byte ||| (m.byte <<< 4)).getLsbD 0 = p.completion ∧ (p.byte ||| (m.byte <<< 4)).getLsbD 1 = p.notify
      ∧ (p.byte ||| (m.byte <<< 4)).getLsbD 2 = p.trunk ∧ (p.byte ||| (m.byte <<< 4)).getLsbD 3 = p.fault
      ∧ (p.byte ||| (m.byte <<< 4)).getLsbD 4 = m.completion ∧ (p.byte ||| (m.byte <<< 4)).getLsbD 5 = m.notify
      ∧ (p.byte ||| (m.byte <<< 4)).getLsbD 6 = m.trunk ∧ (p.byte ||| (m.byte <<< 4)).getLsbD 7 = m.fault := by
  simp only [Categories.byte, BitVec.getLsbD_or, BitVec.getLsbD_shiftLeft, getLsbD_bitAt]
  simp

/-- R186: the threshold in the lower six bits of the last byte. -/
theorem threshold_mod {k : Nat} (h : k < 64) (b : Bool) :
    ((natByte k &&& 0x3F) ||| bitAt b 7).toNat % 2 ^ 6 = k := by
  rw [toNat_or_bitAt_mod _ _ (by decide), BitVec.toNat_and, natByte_toNat (by omega)]
  change (k &&& (2 ^ 6 - 1)) % 2 ^ 6 = k
  rw [Nat.and_two_pow_sub_one_eq_mod]
  omega

/-- R186: the line mode in the top bit of the last byte. -/
theorem lineMode_bit (k : Nat) (m : LineMode) :
    ((natByte k &&& 0x3F) ||| bitAt (m == .pulse) 7).getLsbD 7 = decide (m = .pulse) := by
  rw [BitVec.getLsbD_or, BitVec.getLsbD_and, getLsbD_bitAt]
  cases m <;> simp

/-- The TRUNK cause byte of READ_EVENTS. -/
def TrunkCauses.outByte (c : TrunkCauses) : OutByte :=
  ⟨bitAt c.presenceChange 0 ||| bitAt c.windowConflict 1 ||| bitAt c.syncLost 2 ||| bitAt c.responseDropped 3, 0xF0⟩

/-- R186: the TRUNK causes in their bits. -/
theorem TrunkCauses.getLsbD_outByte (c : TrunkCauses) (free : Byte) :
    (c.outByte.sent free).getLsbD 0 = c.presenceChange ∧ (c.outByte.sent free).getLsbD 1 = c.windowConflict
      ∧ (c.outByte.sent free).getLsbD 2 = c.syncLost ∧ (c.outByte.sent free).getLsbD 3 = c.responseDropped := by
  refine ⟨(OutByte.getLsbD_sent rfl free).trans ?_, (OutByte.getLsbD_sent rfl free).trans ?_,
    (OutByte.getLsbD_sent rfl free).trans ?_, (OutByte.getLsbD_sent rfl free).trans ?_⟩
  all_goals
    simp only [BitVec.getLsbD_or, getLsbD_bitAt]
    simp

/-- The FAULT cause byte of READ_EVENTS. -/
def FaultCauses.outByte (c : FaultCauses) : OutByte :=
  ⟨bitAt c.detached 0 ||| bitAt c.targetWriteFault 1 ||| bitAt c.localMemoryFault 2 ||| bitAt c.loadFault 3
    ||| bitAt c.joinInvalid 4 ||| bitAt c.joinDuplicate 5, 0xC0⟩

/-- R186: the FAULT causes in their bits. -/
theorem FaultCauses.getLsbD_outByte (c : FaultCauses) (free : Byte) :
    (c.outByte.sent free).getLsbD 0 = c.detached ∧ (c.outByte.sent free).getLsbD 1 = c.targetWriteFault
      ∧ (c.outByte.sent free).getLsbD 2 = c.localMemoryFault ∧ (c.outByte.sent free).getLsbD 3 = c.loadFault
      ∧ (c.outByte.sent free).getLsbD 4 = c.joinInvalid ∧ (c.outByte.sent free).getLsbD 5 = c.joinDuplicate := by
  refine ⟨(OutByte.getLsbD_sent rfl free).trans ?_, (OutByte.getLsbD_sent rfl free).trans ?_,
    (OutByte.getLsbD_sent rfl free).trans ?_, (OutByte.getLsbD_sent rfl free).trans ?_,
    (OutByte.getLsbD_sent rfl free).trans ?_, (OutByte.getLsbD_sent rfl free).trans ?_⟩
  all_goals
    simp only [BitVec.getLsbD_or, getLsbD_bitAt]
    simp

/-- The last byte of READ_EVENTS. -/
def EventUnit.modeByte (u : EventUnit) : OutByte :=
  ⟨(natByte u.threshold &&& 0x3F) ||| bitAt (u.lineMode == .pulse) 7, 0x40⟩

/-- R163: the response of READ_EVENTS. -/
theorem outBytes_eventsLayout (u : EventUnit) (k : Nat) :
    outBytes k 0 (eventsLayout u) =
      [u.pending.byte ||| (u.mask.byte <<< 4), u.trunkCauses.outByte.sent (Config.freeByte k 1),
        u.faultCauses.outByte.sent (Config.freeByte k 2), u.modeByte.sent (Config.freeByte k 3)] := by
  simp only [eventsLayout, outBytes_cons, OutByte.sent_exactly]
  rfl

/-- Settles O14: byte by byte of the two layouts. -/
theorem readFaultAndEventsReport : Obligations.ReadFaultAndEventsReport := by
  intro s hs
  refine ⟨fun hopen => ?fault, fun hopen => ?events⟩
  case events =>
    rw [exec_readEvents hopen hs, State.answerLoose, outBytes_eventsLayout]
    obtain ⟨h0, h1, h2, h3, h4, h5, h6, h7⟩ := Categories.getLsbD_pair s.events.pending s.events.mask
    obtain ⟨t0, t1, t2, t3⟩ := s.events.trunkCauses.getLsbD_outByte (Config.freeByte s.freeIndex 1)
    obtain ⟨f0, f1, f2, f3, f4, f5⟩ := s.events.faultCauses.getLsbD_outByte (Config.freeByte s.freeIndex 2)
    refine ⟨_, _, _, _, rfl, h0, h1, h2, h3, h4, h5, h6, h7, t0, t1, t2, t3, f0, f1, f2, f3, f4, f5, fun h => ?_, ?_⟩
    · exact (OutByte.toNat_sent_mod (n := 6) (by decide) _).trans (threshold_mod h _)
    · exact (OutByte.getLsbD_sent rfl _).trans (lineMode_bit _ _)
  case fault =>
    rw [exec_readFault hopen hs, State.answerLoose]
    cases s.events.lastFault with
    | none =>
      rw [outBytes_faultLayout_none]
      exact ⟨_, _, _, _, rfl, OutByte.getLsbD_sent rfl _, fun _ => ⟨OutByte.getLsbD_sent rfl _, rfl, rfl, rfl⟩, nofun⟩
    | some r =>
      rw [outBytes_faultLayout_some]
      obtain ⟨hpresent, hdetail⟩ := r.getLsbD_flagsByte (Config.freeByte s.freeIndex 0)
      refine ⟨_, _, _, _, rfl, hpresent, nofun, fun r' hr => ?_⟩
      cases hr
      refine ⟨?_, ?_, hdetail, fun n hn => ?_, fun w hw => ?_, fun reason w hw => ?_⟩
      · cases r.kind <;> rfl
      · cases r.station <;> rfl
      · rw [hn, FaultDetail.sent_outByte rfl]
        exact natByte_toNat (by omega)
      · rw [hw, FaultDetail.sent_outByte rfl]
        exact natByte_toNat (by omega)
      · obtain ⟨b, hb, hlow, hhigh⟩ := FaultDetail.byte?_join reason w
        rw [hw, FaultDetail.sent_outByte hb, hlow, hhigh]
        exact ⟨by cases w <;> rfl, by cases reason <;> rfl⟩

/-! ### The takes (R122, R128) -/

/-- R122: TAKE_COMPLETION with no record. -/
theorem exec_takeCompletion_empty {s : State} (hopen : s.openFor .takeCompletion []) (hs : s.ctl.station ≠ .loading)
    (hq : s.completion.queue = []) :
    exec .takeCompletion s = .next (s.answer .takeCompletion .empty (fillers 10)) := by
  rw [exec_of_openFor (i := .takeCompletion) rfl rfl hopen, State.takeByCode, State.takeTakeCompletion,
    State.ifPermitted_of_loaded rfl hs, hq]

/-- R122: TAKE_COMPLETION offers the head record. -/
theorem exec_takeCompletion_done {s : State} (hopen : s.openFor .takeCompletion []) (hs : s.ctl.station ≠ .loading)
    {r : CompletionRecord} {rest : List CompletionRecord} (hq : s.completion.queue = r :: rest) :
    exec .takeCompletion s = .next (s.answerLoose .takeCompletion .done r.layout) := by
  rw [exec_of_openFor (i := .takeCompletion) rfl rfl hopen, State.takeByCode, State.takeTakeCompletion,
    State.ifPermitted_of_loaded rfl hs, hq]

/-- R128: TAKE_NOTIFY with no record. -/
theorem exec_takeNotify_empty {s : State} (hopen : s.openFor .takeNotify []) (hs : s.ctl.station ≠ .loading)
    (hq : s.mailbox.records = []) : exec .takeNotify s = .next (s.answer .takeNotify .empty (fillers 7)) := by
  rw [exec_of_openFor (i := .takeNotify) rfl rfl hopen, State.takeByCode, State.takeTakeNotify,
    State.ifPermitted_of_loaded rfl hs, hq]

/-- R128: TAKE_NOTIFY offers the oldest record. -/
theorem exec_takeNotify_done {s : State} (hopen : s.openFor .takeNotify []) (hs : s.ctl.station ≠ .loading)
    {r : NotifyRecord} {rest : List NotifyRecord} (hq : s.mailbox.records = r :: rest) :
    exec .takeNotify s = .next (s.answer .takeNotify .done r.bytes) := by
  rw [exec_of_openFor (i := .takeNotify) rfl rfl hopen, State.takeByCode, State.takeTakeNotify,
    State.ifPermitted_of_loaded rfl hs, hq]

/-- Byte 1 of a completion record. -/
def CompletionRecord.flagsByte (r : CompletionRecord) : OutByte :=
  ⟨r.op.byte ||| bitAt r.target.isSome 4 ||| bitAt r.oldValue.isSome 5
    ||| bitAt (r.oldValue.isSome && r.swapped == some true) 6 ||| bitAt r.urgent 7,
    if r.oldValue.isSome then 0x08 else 0x48⟩

/-- The target byte of a completion record. -/
def CompletionRecord.targetByte (r : CompletionRecord) : OutByte :=
  match r.target with
  | some n => .exactly (natByte n.val)
  | none => .meaningless

/-- Byte `i` of the old value of a completion record. -/
def CompletionRecord.oldByte (r : CompletionRecord) (i : Fin 4) : OutByte :=
  match r.oldValue with
  | some v => .exactly v[i]
  | none => .meaningless

/-- R186: the record as it is sent. -/
theorem CompletionRecord.outBytes_layout (r : CompletionRecord) (k : Nat) :
    outBytes k 0 r.layout =
      [r.status.byte, r.flagsByte.sent (Config.freeByte k 1), r.targetByte.sent (Config.freeByte k 2),
        natByte (16 * r.busyRetries + r.corruptResends), r.cookie.extractLsb' 8 8, r.cookie.extractLsb' 0 8,
        (r.oldByte 0).sent (Config.freeByte k 6), (r.oldByte 1).sent (Config.freeByte k 7),
        (r.oldByte 2).sent (Config.freeByte k 8), (r.oldByte 3).sent (Config.freeByte k 9)] := by
  obtain ⟨cookie, op, status, target, oldValue, swapped, busyRetries, corruptResends, urgent⟩ := r
  cases oldValue with
  | none =>
    simp only [CompletionRecord.layout, CompletionRecord.oldByte, bytes2, List.map_cons, List.map_nil,
      List.cons_append, List.nil_append, List.replicate_succ, List.replicate_zero, outBytes_cons, OutByte.sent_exactly]
    rfl
  | some v =>
    simp only [CompletionRecord.layout, CompletionRecord.oldByte, bytes2, Word4.toList_eq, List.map_cons, List.map_nil,
      List.cons_append, List.nil_append, outBytes_cons, OutByte.sent_exactly]
    rfl

/-- R186: the op of the record. -/
theorem CompletionRecord.flagsByte_op (r : CompletionRecord) (free : Byte) :
    (r.flagsByte.sent free).toNat % 8 = r.op.byte.toNat := by
  have hloose : ∀ i < 3, (if r.oldValue.isSome then 0x08 else 0x48 : Byte).getLsbD i = false := by
    cases r.oldValue.isSome <;> decide
  refine (OutByte.toNat_sent_mod hloose free).trans ?_
  rw [toNat_or_bitAt_mod _ _ (by decide), toNat_or_bitAt_mod _ _ (by decide), toNat_or_bitAt_mod _ _ (by decide),
    toNat_or_bitAt_mod _ _ (by decide)]
  cases r.op <;> rfl

/-- R186: the flags of the record. -/
theorem CompletionRecord.getLsbD_flagsByte (r : CompletionRecord) (free : Byte) :
    (r.flagsByte.sent free).getLsbD 4 = r.target.isSome ∧ (r.flagsByte.sent free).getLsbD 5 = r.oldValue.isSome
      ∧ (r.oldValue.isSome = true → (r.flagsByte.sent free).getLsbD 6 = decide (r.swapped = some true))
      ∧ (r.flagsByte.sent free).getLsbD 7 = r.urgent := by
  have hloose : ∀ i ∈ [4, 5, 7], (if r.oldValue.isSome then 0x08 else 0x48 : Byte).getLsbD i = false := by
    cases r.oldValue.isSome <;> decide
  have hbits : ∀ i, 3 ≤ i → r.op.byte.getLsbD i = false := fun i => Op.getLsbD_byte r.op
  refine ⟨(OutByte.getLsbD_sent (hloose 4 (by simp)) free).trans ?_,
    (OutByte.getLsbD_sent (hloose 5 (by simp)) free).trans ?_,
    fun hold => (OutByte.getLsbD_sent (by rw [hold]; rfl) free).trans ?_,
    (OutByte.getLsbD_sent (hloose 7 (by simp)) free).trans ?_⟩
  all_goals
    simp only [BitVec.getLsbD_or, getLsbD_bitAt, hbits, Nat.reduceLeDiff]
    simp
  simp [hold, beq_eq_decide]

/-- R186: the status codes. -/
theorem Status.byte_eq (st : Status) :
    st.byte =
      match st with
      | .ok => 0 | .denied => 1 | .unclaimed => 2 | .conflict => 3 | .busyExhausted => 4 | .corruptExhausted => 5
      | .timeout => 6 | .targetLost => 7 | .remoteFault => 8 | .localFault => 9 | .aborted => 10 := by
  cases st <;> rfl

/-- R186: the number of the target, when there is one. -/
theorem CompletionRecord.sent_targetByte {r : CompletionRecord} {n : StationNo} (h : r.target = some n) (free : Byte) :
    (r.targetByte.sent free).toNat = n.val := by
  rw [CompletionRecord.targetByte, h, OutByte.sent_exactly]
  exact natByte_toNat (by omega)

/-- R186: the old value, when there is one. -/
theorem CompletionRecord.sent_oldByte {r : CompletionRecord} {v : Word4} (h : r.oldValue = some v) (i : Fin 4)
    (free : Byte) : (r.oldByte i).sent free = v[i] := by
  rw [CompletionRecord.oldByte, h, OutByte.sent_exactly]

/-- R186: the three fields of the first byte of a notify record. -/
theorem natByte_notify (acked : Bool) (w : WindowIdx) (n : StationNo) :
    (bitAt acked 7 ||| natByte (16 * w.val + n.val)).getLsbD 7 = acked
      ∧ (bitAt acked 7 ||| natByte (16 * w.val + n.val)).toNat / 16 % 8 = w.val
      ∧ (bitAt acked 7 ||| natByte (16 * w.val + n.val)).toNat % 16 = n.val := by
  have hlow : (natByte (16 * w.val + n.val)).toNat = 16 * w.val + n.val := natByte_toNat (by omega)
  have hmod : (bitAt acked 7 ||| natByte (16 * w.val + n.val)).toNat % 2 ^ 7 = 16 * w.val + n.val := by
    rw [BitVec.or_comm, toNat_or_bitAt_mod _ _ le_rfl, hlow]
    omega
  refine ⟨?_, by omega, by omega⟩
  have hbit : (natByte (16 * w.val + n.val)).getLsbD 7 = false := by
    rw [BitVec.getLsbD, hlow]
    exact Nat.testBit_lt_two_pow (by omega)
  rw [BitVec.getLsbD_or, getLsbD_bitAt, hbit]
  simp

/-- R186: a notify record as it is sent. -/
theorem NotifyRecord.bytes_eq (r : NotifyRecord) :
    r.bytes =
      (bitAt r.acked 7 ||| natByte (16 * r.window.val + r.source.val)) :: BitVec.ofNat 8 (r.wordOffset / 256)
        :: BitVec.ofNat 8 r.wordOffset :: r.value := by
  rw [NotifyRecord.bytes, bytes2_eq_ofNat]
  have hhigh : BitVec.ofNat 8 ((BitVec.ofNat 16 r.wordOffset).toNat / 256) = BitVec.ofNat 8 (r.wordOffset / 256) := by
    refine BitVec.eq_of_toNat_eq ?_
    simp only [BitVec.toNat_ofNat]
    omega
  have hlow : BitVec.ofNat 8 (BitVec.ofNat 16 r.wordOffset).toNat = BitVec.ofNat 8 r.wordOffset := by
    refine BitVec.eq_of_toNat_eq ?_
    simp only [BitVec.toNat_ofNat]
    omega
  rw [hhigh, hlow]
  rfl

/-- Settles O17: the oldest record as its layout sends it. -/
theorem takesOfferTheOldestRecord : Obligations.TakesOfferTheOldestRecord := by
  refine ⟨fun s hopen hs => ⟨fun hq => ?_, fun r rest hq => ?_⟩, fun s hopen hs => ⟨fun hq => ?_, fun r rest hq => ?_⟩⟩
  · exact exec_takeCompletion_empty hopen hs hq
  · rw [exec_takeCompletion_done hopen hs hq, State.answerLoose, r.outBytes_layout]
    obtain ⟨htarget, hold, hswapped, hurgent⟩ := r.getLsbD_flagsByte (Config.freeByte s.freeIndex 1)
    rw [Status.byte_eq]
    refine ⟨_, _, _, _, _, _, _, rfl, ?_, htarget, hold, hswapped, hurgent,
      fun n hn => CompletionRecord.sent_targetByte hn _, fun hb hc => ?_, fun v hv => ?_⟩
    · rw [r.flagsByte_op]
      cases r.op <;> rfl
    · rw [natByte_toNat (by omega)]
      omega
    · rw [Word4.toList_eq]
      simp only [CompletionRecord.sent_oldByte hv]
      rfl
  · exact exec_takeNotify_empty hopen hs hq
  · rw [exec_takeNotify_done hopen hs hq, r.bytes_eq]
    exact ⟨_, rfl, natByte_notify r.acked r.window r.source⟩

/-! ### SET_MASK and SET_THRESHOLD (R147) -/

/-- R147, R149: the masks are replaced, and a pending category unmasked in PULSE mode gains a pulse. -/
theorem EventUnit.setMask_pulsing (u : EventUnit) (m : Categories) :
    (u.setMask m).pulsing =
      match u.lineMode with
      | .level => u.pulsing
      | .pulse =>
        u.pulsing || (u.pending.completion && u.mask.completion && !m.completion)
          || (u.pending.notify && u.mask.notify && !m.notify)
          || (u.pending.trunk && u.mask.trunk && !m.trunk)
          || (u.pending.fault && u.mask.fault && !m.fault) := by
  cases h : u.lineMode <;> simp [EventUnit.setMask, h, Bool.or_assoc]

/-- R147: what SET_MASK does. -/
theorem exec_setMask {s : State} {v : Byte} (hopen : s.openFor .setMask [v]) (hs : s.ctl.station ≠ .loading) :
    exec (.setMask v) s = .next
      ((s.onEvents fun e => e.setMask (Categories.ofByte v)).answer .setMask .done []) := by
  rw [exec_of_openFor (i := .setMask v) rfl rfl hopen, State.takeByCode, State.takeSetMask,
    State.ifPermitted_of_loaded rfl hs]
  rfl

/-- R147: what SET_THRESHOLD does. -/
theorem exec_setThreshold {s : State} {v : Byte} (hopen : s.openFor .setThreshold [v])
    (hs : s.ctl.station ≠ .loading) :
    exec (.setThreshold v) s = .next
      (if 1 ≤ v.toNat ∧ v.toNat ≤ 32 then
        (s.onEvents fun e => { e with threshold := v.toNat }).answer .setThreshold .done []
      else s.answer .setThreshold .configInvalid []) := by
  rw [exec_of_openFor (i := .setThreshold v) rfl rfl hopen, State.takeByCode, State.takeSetThreshold,
    State.ifPermitted_of_loaded rfl hs]
  rfl

/-- Settles O19: the mask by line mode, the threshold by its range. -/
theorem setMaskAndThreshold : Obligations.SetMaskAndThreshold := by
  refine fun v s hs => ⟨fun hopen => ?_, fun hopen => ⟨fun hrange => ?_, fun hrange => ?_⟩⟩
  · have hpulse := s.events.setMask_pulsing (Categories.ofByte v)
    rw [exec_setMask hopen hs]
    cases hmode : s.events.lineMode with
    | level | pulse =>
      rw [hmode] at hpulse
      dsimp only [Categories.ofByte] at hpulse ⊢
      rw [← hpulse]
      rfl
  · rw [exec_setThreshold hopen hs, if_pos hrange]
    rfl
  · rw [exec_setThreshold hopen hs, if_neg (by omega)]
    rfl

/-! ### CONFIG_WRITE (R165) -/

/-- R165: what CONFIG_WRITE of a well-formed item does. -/
theorem exec_configWrite {x : ConfigValue} {s : State} (hwf : x.wf = true)
    (hopen : s.openFor .configWrite x.bytes) : exec (.configWrite x) s = .next (s.takeConfigWrite x) := by
  rw [exec_of_openFor (i := .configWrite x) rfl hwf hopen, State.takeByCode, ConfigValue.ofBytes_bytes x hwf]

/-- R47: the presence table follows a new number. -/
theorem State.setNumber_eq (s : State) (n : StationNo) :
    s.setNumber n =
      { s with
        ctl := { s.ctl with number := n }
        presence :=
          { s.presence with
            table := Vector.ofFn (fun m =>
              if m = n then .self else if m = s.ctl.number then .absent else s.presence.table[m]) } } := by
  have htable : (s.presence.table.set s.ctl.number.val .absent s.ctl.number.isLt).set n.val .self n.isLt =
      Vector.ofFn (fun m => if m = n then .self else if m = s.ctl.number then .absent else s.presence.table[m]) := by
    refine Vector.ext fun i hi => ?_
    rw [Vector.getElem_ofFn]
    simp only [Vector.getElem_set, Fin.ext_iff, Fin.getElem_fin]
    simp only [eq_comm (b := i)]
  rw [State.setNumber, htable]

/-- A byte below 8 names its window. -/
theorem windowOfByte_of_val {b : Byte} {w : WindowIdx} (h : b.toNat = w.val) : windowOfByte b = some w := by
  have hlt : b.toNat < 8 := h ▸ w.isLt
  rw [windowOfByte, dif_pos hlt]
  exact congrArg some (Fin.ext h)

/-- R188: a kind code with bit 5 names neither kind. -/
theorem RawWindow.kind_eq_none {raw : RawWindow} (h : raw.flags.getLsbD 5 = true) : raw.kind = none := if_pos h

/-- R188: bit 4 tells the two kinds apart. -/
theorem RawWindow.kind_eq_some {raw : RawWindow} (h : raw.flags.getLsbD 5 = false) :
    raw.kind = some (if raw.flags.getLsbD 4 = true then .notify else .memory) := by
  rw [RawWindow.kind, h, if_neg (by decide)]
  split <;> rfl

/-- R165: a window entry that names no window, or a kind that is none, is refused. -/
theorem State.takeConfigWrite_window_refused {s : State} (hs : s.ctl.station = .config) {index : Byte}
    {raw : RawWindow} (h : 8 ≤ index.toNat ∨ raw.flags.getLsbD 5 = true) :
    s.takeConfigWrite (.window index raw) = s.answer .configWrite .configInvalid [] := by
  rw [State.takeConfigWrite, State.ifPermitted_of_permitted (by rw [hs]; rfl)]
  dsimp only
  obtain h | h := h
  · rw [windowOfByte_ge h]
  · rw [RawWindow.kind_eq_none h]
    split
    · next hkind => exact absurd hkind nofun
    · rfl

/-- Settles O22: item by item. -/
theorem configWriteStores : Obligations.ConfigWriteStores := by
  intro s hs answered
  have hpermitted : HostCode.configWrite.permitted s.ctl.station = true := by rw [hs]; rfl
  refine ⟨fun v hopen => ⟨fun hv => ?_, fun n hn => ?_⟩, fun v hopen => ?_, fun v hopen => ⟨fun hv => ?_, fun hv => ?_⟩,
    fun index raw hopen => ⟨fun h => ?_, fun w hw hk => ?_⟩, fun sel h1 h2 h3 h4 hopen => ?_⟩
  · rw [exec_configWrite (x := .number v) rfl hopen, State.takeConfigWrite, State.ifPermitted_of_permitted hpermitted]
    exact congrArg _ (dif_neg (by omega))
  · have hv : v.toNat < 16 := hn ▸ n.isLt
    obtain rfl : (⟨v.toNat, hv⟩ : StationNo) = n := Fin.ext hn
    rw [exec_configWrite (x := .number v) rfl hopen, State.takeConfigWrite, State.ifPermitted_of_permitted hpermitted]
    dsimp only
    rw [dif_pos hv, State.setNumber_eq]
    rfl
  · have hct : v.extractLsb' 0 12 = BitVec.ofNat 12 (v.toNat % 4096) := BitVec.eq_of_toNat_eq (by simp)
    rw [exec_configWrite (x := .ct v) rfl hopen, State.takeConfigWrite, State.ifPermitted_of_permitted hpermitted]
    dsimp only
    rw [hct]
    rfl
  · rw [exec_configWrite (x := .waitLimit v) rfl hopen, State.takeConfigWrite,
      State.ifPermitted_of_permitted hpermitted]
    exact congrArg _ (if_pos hv)
  · rw [exec_configWrite (x := .waitLimit v) rfl hopen, State.takeConfigWrite,
      State.ifPermitted_of_permitted hpermitted]
    exact congrArg _ (if_neg (by omega))
  · rw [exec_configWrite (x := .window index raw) rfl hopen, State.takeConfigWrite_window_refused hs h]
    rfl
  · rw [exec_configWrite (x := .window index raw) rfl hopen, State.takeConfigWrite,
      State.ifPermitted_of_permitted hpermitted]
    dsimp only
    rw [windowOfByte_of_val hw, RawWindow.kind_eq_some hk]
    rfl
  · have hwf : (ConfigValue.noItem sel).wf = true := wf_noItem h1 h2 h3 h4
    rw [exec_configWrite (x := .noItem sel) hwf hopen, State.takeConfigWrite, State.ifPermitted_of_permitted hpermitted]
    rfl

/-! ### LEAVE and the end of draining (R179, R180) -/

/-- R179: what LEAVE does in ONLINE. -/
theorem exec_leave {s : State} (hopen : s.openFor .leave []) (hs : s.ctl.station = .online) :
    exec .leave s = .next ({ s with ctl := { s.ctl with station := .draining } }.answer .leave .done []) := by
  rw [exec_of_openFor (i := .leave) rfl rfl hopen, State.takeByCode, State.takeLeave,
    State.ifPermitted_of_permitted (by rw [hs]; rfl)]

/-- R180: DRAINING ends at rest. -/
theorem exec_endOfDraining_of_drained {s : State} (h : s.ctl.station = .draining ∧ s.drained = true) :
    exec .endOfDraining s = .next s.endDraining := by
  change execEndOfDraining s = _
  rw [execEndOfDraining, if_pos h]

/-- R180: DRAINING does not end before. -/
theorem exec_endOfDraining_of_not_drained {s : State} (h : ¬ (s.ctl.station = .draining ∧ s.drained = true)) :
    exec .endOfDraining s = .next s := by
  change execEndOfDraining s = _
  rw [execEndOfDraining, if_neg h]

/-- R180: leaving the trunk with a quiet TIF. -/
theorem State.leaveTrunk_of_quiet {s : State} (h : s.tifQuiet = true) :
    s.leaveTrunk =
      { s with
        ctl := { s.ctl with station := .config, joinHoldoff := none }
        access := { s.access with sync := .lost, collisions := 0 }
        presence := { table := presenceCleared s.ctl.number, beaconTimer := .stopped, beaconQueued := false }
        tif := { tx := none, exchange := none, corruptNext := false, incoming := false, trunk := .busy } } := by
  obtain ⟨htx, hquiet⟩ := s.tifQuiet_iff.mp h
  have hexchange : s.tif.exchange.filter (fun e => !e.uninvolved) = none := by
    rw [Option.filter_eq_none_iff]
    intro e he
    simp [((Tif.uninvolved_iff s.tif).mp hquiet).2 e he]
  simp only [State.leaveTrunk, htx, hexchange]

theorem State.endDraining_entry (s : State) (g : Tag) :
    s.endDraining.entry g = if (s.entry g).isStale then OrtEntry.blank else s.entry g := by
  rw [State.endDraining, State.leaveTrunk_entry, State.freeStale_entry]

theorem State.endDraining_issueOrder (s : State) :
    s.endDraining.ort.issueOrder = s.ort.issueOrder.filter (fun g => !(s.entry g).isStale) := by
  rw [State.endDraining, State.leaveTrunk_ort, State.freeStale]

/-- R180: the blocks of the trunk side at the end of draining. -/
theorem State.endDraining_of_drained {s : State} (h : s.drained = true) :
    s.endDraining =
      { s with
        ctl := { s.ctl with station := .config, joinHoldoff := none }
        access := { s.access with sync := .lost, collisions := 0 }
        presence := { table := presenceCleared s.ctl.number, beaconTimer := .stopped, beaconQueued := false }
        tif := { tx := none, exchange := none, corruptNext := false, incoming := false, trunk := .busy }
        ort := s.endDraining.ort } := by
  obtain ⟨-, -, -, -, -, hquiet⟩ := s.drained_iff.mp h
  have hfreed : s.freeStale.tifQuiet = true := by rwa [State.tifQuiet, State.freeStale_tif]
  rw [State.endDraining, State.leaveTrunk_of_quiet hfreed]
  simp only [State.freeStale]

/-- Settles O25: by the conditions of the end of draining (`State.drained_iff`). -/
theorem leaveAndEndOfDraining : Obligations.LeaveAndEndOfDraining := by
  intro s atRest
  have hrest : atRest ↔ s.ctl.station = .draining ∧ s.drained = true := and_congr_right' s.drained_iff.symm
  refine ⟨fun hopen hs => exec_leave hopen hs, fun h => exec_endOfDraining_of_not_drained fun hd => h (hrest.mpr hd),
    fun h => ⟨s.endDraining, exec_endOfDraining_of_drained (hrest.mp h), fun g hg => ?_, fun g => ?_, ?_, fun g => ?_,
      ?_⟩⟩
  · rw [State.endDraining_entry, if_neg]
    rw [OrtEntry.isStale_iff, hg]
    exact nofun
  · rw [State.endDraining_entry]
    obtain ⟨-, hstates, -⟩ := h
    obtain hfree | hstale := hstates g
    · split
      · rfl
      · exact hfree
    · rw [if_pos ((s.entry g).isStale_iff.mpr hstale)]
      rfl
  · rw [State.endDraining_issueOrder]
    exact List.filter_sublist
  · rw [State.endDraining_issueOrder, List.mem_filter, Bool.not_eq_true', ← Bool.not_eq_true, OrtEntry.isStale_iff,
      not_exists]
  · exact State.endDraining_of_drained (hrest.mp h).2

end Sys2Proof.Machine
end

section
/-! PROOFS. Chapters 2 to 6 (the timers, the beginning of a slot): the beacon timer and the join holdoff (O37), the
lifetime of a reservation (O38), the marks driven (O39), the timers of an ORT entry (O45). -/

namespace Sys2Proof.Machine

variable {s : State}

/-! ### The beacon timer and the join holdoff (R44, R178) -/

/-- R44: on the trunk the expiry queues a beacon. -/
theorem exec_beaconTimerExpiry_of_expired (h : s.presence.beaconTimer = .running 0) (hon : s.onTrunk = true) :
    exec .beaconTimerExpiry s = .next
      { s with presence := { s.presence with beaconTimer := .expired, beaconQueued := true } } := by
  change execBeaconTimerExpiry s = _
  rw [execBeaconTimerExpiry, h]
  exact congrArg _ (if_pos hon)

/-- A beacon timer that has not just run out does not expire. -/
theorem exec_beaconTimerExpiry_of_running (h : s.presence.beaconTimer ≠ .running 0) :
    exec .beaconTimerExpiry s = .next s := by
  change execBeaconTimerExpiry s = _
  unfold execBeaconTimerExpiry
  split
  · next h0 => exact absurd h0 h
  all_goals rfl

/-- R178: a join holdoff that has not run out, or does not run, does not expire. -/
theorem exec_joinHoldoffExpiry_of_running (h : ¬ (s.ctl.station = .joining ∧ s.ctl.joinHoldoff = some 0)) :
    exec .joinHoldoffExpiry s = .next s := by
  change execJoinHoldoffExpiry s = _
  rw [execJoinHoldoffExpiry, if_neg h]

/-- Settles O37: each timer by whether it has run out. -/
theorem beaconAndHoldoffTimers : Obligations.BeaconAndHoldoffTimers := by
  refine fun s => ⟨fun h hs => ?_, exec_beaconTimerExpiry_of_running, fun hs h => ?_, fun h => ?_⟩
  · exact exec_beaconTimerExpiry_of_expired h (s.onTrunk_iff.mpr (by simpa using hs))
  · change execJoinHoldoffExpiry s = _
    rw [execJoinHoldoffExpiry, if_pos ⟨hs, h⟩]
    rfl
  · exact exec_joinHoldoffExpiry_of_running fun ⟨hs, h0⟩ => h.elim (fun hn => hn hs) fun hn => hn h0

/-! ### The lifetime of a reservation (R67) -/

/-- R67: the place of a service entry. -/
theorem exec_lifetimeExpiry_service (i : Fin 8) (s : State) :
    exec (.lifetimeExpiry (.service i)) s = .next (s.expireService i.val) := rfl

/-- R67: the place of a response. -/
theorem exec_lifetimeExpiry_response (i : Fin 8) (s : State) :
    exec (.lifetimeExpiry (.response i)) s = .next (s.expireResponse i.val) := rfl

/-- R67: an entry whose lifetime has run out keeps its place with the note. -/
theorem State.expireService_of_expired {i : Nat} {e : ServiceEntry} (he : s.target.service[i]? = some e)
    (h : e.reservation = .live 0) :
    s.expireService i =
      { s with
        target :=
          { s.target with
            service := s.target.service.set i { e with reservation := .expired }
            nonPosted := s.target.nonPosted - 1 }
        events := s.events.responsesDropped 1 } := by
  rw [State.expireService, he]
  dsimp only
  rw [h]

/-- A place without a reservation that has run out keeps it. -/
theorem State.expireService_of_running {i : Nat} (h : ∀ e, s.target.service[i]? = some e → e.reservation ≠ .live 0) :
    s.expireService i = s := by
  obtain hs | ⟨e, he, h0, -⟩ := s.expireService_cases i
  · exact hs
  · exact absurd h0 (h e he)

/-- R67: a response whose lifetime has run out is dropped. -/
theorem State.expireResponse_of_expired {i : Nat} {r : ResponseEntry} (hr : s.target.responses[i]? = some r)
    (h : r.lifetime = 0) : s.expireResponse i = s.dropResponse i := by
  rw [State.expireResponse, hr]
  exact if_pos h

/-- A response with ticks remaining stays. -/
theorem State.expireResponse_of_running {i : Nat} (h : ∀ r, s.target.responses[i]? = some r → r.lifetime ≠ 0) :
    s.expireResponse i = s := by
  obtain hs | ⟨r, hr, h0, -⟩ := s.expireResponse_cases i
  · exact hs
  · exact absurd h0 (h r hr)

/-- The response behind those of `before` leaves its queue. -/
theorem State.dropResponse_of_append {before after : List ResponseEntry} {r : ResponseEntry}
    (h : s.target.responses = before ++ r :: after) :
    s.dropResponse before.length =
      { s with
        target := { s.target with responses := before ++ after, nonPosted := s.target.nonPosted - 1 }
        events := s.events.responsesDropped 1 } := by
  have herase : s.target.responses.eraseIdx before.length = before ++ after := by
    rw [h, List.eraseIdx_append_of_length_le le_rfl, Nat.sub_self]
    rfl
  rw [State.dropResponse, State.removeResponse, herase]
  rfl

/-- Settles O38: by the place and what stands there. -/
theorem lifetimeReleasesTheReservation : Obligations.LifetimeReleasesTheReservation := by
  intro i s dropped
  have hdropped : s.events.responsesDropped 1 = dropped := s.events.responsesDropped_of_pos Nat.one_pos
  refine ⟨fun e he h => ?_, fun h => ?_, fun before r after h hi h0 => ?_, fun h => ?_⟩
  · rw [exec_lifetimeExpiry_service, State.expireService_of_expired he h, hdropped]
  · rw [exec_lifetimeExpiry_service, State.expireService_of_running h]
  · have hr : s.target.responses[before.length]? = some r := by simp [h]
    rw [exec_lifetimeExpiry_response, ← hi, State.expireResponse_of_expired hr h0, State.dropResponse_of_append h,
      hdropped]
  · rw [exec_lifetimeExpiry_response, State.expireResponse_of_running h]

/-! ### The beginning of a slot (R27, R28, R30) -/

/-- R30: a slot that is ahead begins. -/
theorem exec_slotBegin_of_ahead {e : Exchange} (he : s.tif.exchange = some e) (hb : e.begun = false) :
    exec .slotBegin s = .next
      { s with
        tif :=
          { s.tif with exchange := some { e with mark := if s.onTrunk then e.mark else .none, begun := true } } } := by
  change execSlotBegin s = _
  rw [execSlotBegin, he]
  dsimp only
  rw [hb]
  rfl

/-- No slot is ahead: none begins. -/
theorem exec_slotBegin_of_none (h : ∀ e, s.tif.exchange = some e → e.begun = true) : exec .slotBegin s = .next s := by
  change execSlotBegin s = _
  unfold execSlotBegin
  split
  · rfl
  · next e he => rw [if_pos (h e he)]

/-- Settles O39: by the marks decided. -/
theorem slotBeginDrivesTheMarks : Obligations.SlotBeginDrivesTheMarks := by
  refine fun s => ⟨fun he => exec_slotBegin_of_none (by simp [he]), fun e he hb => exec_slotBegin_of_none ?_,
    fun e he hb => ?_⟩
  · intro e' he'
    obtain rfl : e = e' := by simpa [he] using he'
    exact hb
  · intro n driving silent
    have hdrives : driving.drives = e.mark.cells e.number := rfl
    refine ⟨fun hs => ⟨?_, fun hm => ?_, fun hm => ?_, fun hm => ?_, fun c hm => ⟨fun d hd => ?_, fun hd => ?_,
      fun hd => ?_⟩⟩, fun hs => ⟨?_, rfl⟩⟩
    · rw [exec_slotBegin_of_ahead he hb, if_pos (s.onTrunk_iff.mpr (by simpa using hs))]
    · rw [hdrives, hm]
      rfl
    · rw [hdrives, hm]
      rfl
    · rw [hdrives, hm]
      rfl
    · rw [hdrives, hm, Mark.cells, hd, Decision.code]
      rfl
    · rw [hdrives, hm, Mark.cells, hd, Decision.code]
      rfl
    · rw [hdrives, hm, Mark.cells, hd, Decision.code]
      rfl
    · rw [exec_slotBegin_of_ahead he hb, if_neg]
      rw [s.onTrunk_iff]
      revert hs
      cases s.ctl.station <;> decide

/-! ### The timers of an ORT entry (R97, R100, R112) -/

/-- R97: a holdoff that has run out. -/
theorem exec_holdoffExpiry_of_expired {g : Tag} (h : (s.entry g).state = .hold 0) :
    exec (.holdoffExpiry g) s = .next (s.setEntry g { s.entry g with state := .ready }) := by
  change execHoldoffExpiry g s = _
  simp only [execHoldoffExpiry, h]

theorem exec_holdoffExpiry_of_other {g : Tag} (h : (s.entry g).state ≠ .hold 0) :
    exec (.holdoffExpiry g) s = .next s := by
  change execHoldoffExpiry g s = _
  unfold execHoldoffExpiry
  split
  · next h0 => exact absurd h0 h
  · rfl

/-- R100: a completion timer that has run out. -/
theorem exec_completionTimeout_of_expired {g : Tag} (h : (s.entry g).state = .awaiting 0) :
    exec (.completionTimeout g) s = .next (s.enterDone g (s.entry g) .timeout) := by
  change execCompletionTimeout g s = _
  simp only [execCompletionTimeout, h]

theorem exec_completionTimeout_of_other {g : Tag} (h : (s.entry g).state ≠ .awaiting 0) :
    exec (.completionTimeout g) s = .next s := by
  change execCompletionTimeout g s = _
  unfold execCompletionTimeout
  split
  · next h0 => exact absurd h0 h
  · rfl

/-- R112: a quarantine that has run out. -/
theorem exec_quarantineExpiry_of_expired {g : Tag} (h : (s.entry g).state = .stale 0) :
    exec (.quarantineExpiry g) s = .next (s.freeEntry g) := by
  change execQuarantineExpiry g s = _
  simp only [execQuarantineExpiry, h]

theorem exec_quarantineExpiry_of_other {g : Tag} (h : (s.entry g).state ≠ .stale 0) :
    exec (.quarantineExpiry g) s = .next s := by
  change execQuarantineExpiry g s = _
  unfold execQuarantineExpiry
  split
  · next h0 => exact absurd h0 h
  · rfl

/-- Settles O45: each timer by whether it has run out. -/
theorem entryTimersExpire : Obligations.EntryTimersExpire := fun _ _ =>
  ⟨exec_holdoffExpiry_of_expired, exec_holdoffExpiry_of_other, exec_completionTimeout_of_expired,
    exec_completionTimeout_of_other, fun h => ⟨exec_quarantineExpiry_of_expired h, rfl⟩,
    exec_quarantineExpiry_of_other⟩

end Sys2Proof.Machine
end

section
/-! PROOFS. Chapters 4 and 8 (the memory port and the notify service): the arbiter (O47), the word accesses (O48), the
end of an operation (O49), the notify entry at the head (O50). -/

namespace Sys2Proof.Machine

variable {s : State}

/-! ### The response of a service that ended (R65) -/

/-- R65: the entry at the head is answered when its reservation is live, and removed. -/
theorem State.popService_respond {e : ServiceEntry} {rest : List ServiceEntry} (hq : s.target.service = e :: rest)
    (status : CplStatus) (swapped : Bool) (data : List Byte) :
    (∃ t k, e.request.body.tag = some t ∧ e.reservation = .live k ∧
      (s.respond e status swapped data).popService =
        { s with
          target :=
            { s.target with
              service := rest
              responses :=
                s.target.responses ++ [⟨e.request.source, t, status, swapped, data, k, 0, false⟩] } }) ∨
    ((e.request.body.tag = none ∨ ∀ k, e.reservation ≠ .live k) ∧
      (s.respond e status swapped data).popService = { s with target := { s.target with service := rest } }) := by
  obtain ⟨t, k, ht, hk, h⟩ | ⟨hnone, h⟩ := s.respond_cases e status swapped data
  · refine .inl ⟨t, k, ht, hk, ?_⟩
    rw [h, State.popService]
    dsimp only
    rw [hq]
    rfl
  · refine .inr ⟨hnone, ?_⟩
    rw [h, State.popService, hq]
    rfl

/-- R65: a reservation that is live gives the response its lifetime. -/
theorem State.popService_respond_live {e : ServiceEntry} {rest : List ServiceEntry} {t : Tag} {k : Nat}
    (hq : s.target.service = e :: rest) (ht : e.request.body.tag = some t) (hk : e.reservation = .live k)
    (status : CplStatus) (swapped : Bool) (data : List Byte) :
    (s.respond e status swapped data).popService =
      { s with
        target :=
          { s.target with
            service := rest
            responses := s.target.responses ++ [⟨e.request.source, t, status, swapped, data, k, 0, false⟩] } } := by
  obtain ⟨t', k', ht', hk', h⟩ | ⟨hnone | hnone, -⟩ := State.popService_respond hq status swapped data
  · obtain rfl : t = t' := by simpa [ht] using ht'
    obtain rfl : k = k' := by simpa [hk] using hk'
    exact h
  · simp [ht] at hnone
  · exact absurd hk (hnone k)

/-- R65: without a live reservation nothing is answered. -/
theorem State.popService_respond_dead {e : ServiceEntry} {rest : List ServiceEntry}
    (hq : s.target.service = e :: rest) (h : e.request.body.tag = none ∨ ∀ k, e.reservation ≠ .live k)
    (status : CplStatus) (swapped : Bool) (data : List Byte) :
    (s.respond e status swapped data).popService = { s with target := { s.target with service := rest } } := by
  obtain ⟨t, k, ht, hk, -⟩ | ⟨-, h⟩ := State.popService_respond hq status swapped data
  · obtain h | h := h
    · simp [ht] at h
    · exact absurd hk (h k)
  · exact h

theorem Reservation.isLive_eq_false_iff (r : Reservation) : r.isLive = false ↔ ∀ k, r ≠ .live k := by
  cases r <;> simp [Reservation.isLive]

/-! ### The notify service (R60, R64) -/

/-- R64: the head is a notify entry. -/
theorem exec_notifyService_of_notify {e : ServiceEntry} {rest : List ServiceEntry} {offset : Nat}
    (hq : s.target.service = e :: rest) (hd : e.dest = .notify offset) :
    exec .notifyService s = .next (s.serveNotify e offset) := by
  change execNotifyService s = _
  rw [execNotifyService, hq]
  dsimp only
  rw [hd]

/-- R60: the head is none, or for a MEMORY window. -/
theorem exec_notifyService_of_other
    (h : s.target.service = [] ∨ ∃ e rest, s.target.service = e :: rest ∧ e.dest.isNotify = false) :
    exec .notifyService s = .next s := by
  change execNotifyService s = _
  obtain hq | ⟨e, rest, hq, hd⟩ := h
  · rw [execNotifyService, hq]
  · rw [execNotifyService, hq]
    dsimp only
    cases he : e.dest with
    | memory a => rfl
    | notify offset =>
      rw [he] at hd
      cases hd

/-- R64, R126: the record of a notify entry placed, its hold released and NOTIFY pending. -/
def State.withNotifyRecord (s : State) (e : ServiceEntry) (offset : Nat) : State :=
  { s with
    mailbox :=
      { records := s.mailbox.records ++ [e.notifyRecord offset]
        reserved := if e.notifyHold then s.mailbox.reserved - 1 else s.mailbox.reserved }
    events := s.events.pendNotify }

/-- R64: behind the record comes the response. -/
theorem State.serveNotify_eq_respond (s : State) (e : ServiceEntry) (offset : Nat) :
    s.serveNotify e offset = ((s.withNotifyRecord e offset).respond e .ok false []).popService := rfl

/-- R64: the record placed, of a write with these data. -/
theorem State.withNotifyRecord_of_hold {e : ServiceEntry} {data : List Byte} {acked : Bool}
    (hhold : e.notifyHold = true) (hdata : e.request.body.data = data)
    (hacked : decide (e.request.body.op = .writeAcked) = acked) (offset : Nat) :
    s.withNotifyRecord e offset =
      { s with
        mailbox :=
          { records := s.mailbox.records ++ [⟨e.request.source, e.window, offset, data, acked⟩]
            reserved := s.mailbox.reserved - 1 }
        events := s.events.pendNotify } := by
  subst hdata hacked
  rw [State.withNotifyRecord, hhold]
  rfl

/-- Settles O50: by the request at the head and its reservation. -/
theorem notifyEntryBecomesARecord : Obligations.NotifyEntryBecomesARecord := by
  refine fun s => ⟨exec_notifyService_of_other, fun e rest offset hq hd hhold => ⟨fun data hb => ?_,
    fun t data hb => ⟨fun k hk => ?_, fun hdead => ?_⟩⟩⟩
  all_goals rw [exec_notifyService_of_notify hq hd, State.serveNotify_eq_respond]
  · rw [State.popService_respond_dead (s := s.withNotifyRecord e offset) hq (.inl (by rw [hb]; rfl)),
      State.withNotifyRecord_of_hold (data := data) (acked := false) hhold
        (by rw [hb]; rfl) (by rw [hb]; rfl)]
  · rw [State.popService_respond_live (s := s.withNotifyRecord e offset) hq (by rw [hb]; rfl) hk,
      State.withNotifyRecord_of_hold (data := data) (acked := true) hhold
        (by rw [hb]; rfl) (by rw [hb]; rfl)]
  · rw [State.popService_respond_dead (s := s.withNotifyRecord e offset) hq
        (.inr ((Reservation.isLive_eq_false_iff _).mp hdead)),
      State.withNotifyRecord_of_hold (data := data) (acked := true) hhold
        (by rw [hb]; rfl) (by rw [hb]; rfl)]

/-! ### The arbiter (R137) -/

/-- R137: a port in use grants nothing. -/
theorem exec_memoryGrant_of_busy (h : s.port ≠ none) : exec .memoryGrant s = .next s := by
  change execMemoryGrant s = _
  obtain ⟨op, hop⟩ := Option.ne_none_iff_exists'.mp h
  rw [execMemoryGrant, hop]

/-- R60: nothing is granted before a notify entry at the head has been served. -/
theorem exec_memoryGrant_of_notify (h : s.port = none) (hn : s.notifyAtHead = true) :
    exec .memoryGrant s = .next s := by
  change execMemoryGrant s = _
  rw [execMemoryGrant, h]
  exact congrArg _ (if_pos hn)

/-- R137: the choice of the arbiter is granted. -/
theorem exec_memoryGrant_of_choice (h : s.port = none) (hn : s.notifyAtHead = false) {op : MemOp}
    (hc : s.arbiterChoice = some op) : exec .memoryGrant s = .next (s.beginAccess op) := by
  change execMemoryGrant s = _
  rw [execMemoryGrant, h, hn, hc]
  rfl

/-- R137: with no choice nothing is granted. -/
theorem exec_memoryGrant_of_none (h : s.port = none) (hn : s.notifyAtHead = false) (hc : s.arbiterChoice = none) :
    exec .memoryGrant s = .next s := by
  change execMemoryGrant s = _
  rw [execMemoryGrant, h, hn, hc]
  rfl

theorem State.notifyAtHead_of_nil (h : s.target.service = []) : s.notifyAtHead = false := by
  rw [State.notifyAtHead, h]

theorem State.notifyAtHead_of_cons {e : ServiceEntry} {rest : List ServiceEntry} (h : s.target.service = e :: rest) :
    s.notifyAtHead = e.dest.isNotify := by
  rw [State.notifyAtHead, h]
  dsimp only
  cases e.dest <;> rfl

/-- R60: the target's request. -/
theorem State.targetRequest_of_memory {e : ServiceEntry} {rest : List ServiceEntry} {a : Nat}
    (h : s.target.service = e :: rest) (hd : e.dest = .memory a) :
    s.targetRequest = some (newOp .target e.request.body.memKind a e.request.body.length) := by
  rw [State.targetRequest, h]
  dsimp only
  rw [hd]

theorem State.targetRequest_of_nil (h : s.target.service = []) : s.targetRequest = none := by
  rw [State.targetRequest, h]

/-- R107: the store of this entry waits. -/
def State.stores (s : State) (g : Tag) : Prop := (s.entry g).state = .storing ∧ (s.entry g).endingMark = false

/-- R85: the fetch of this entry waits. -/
def State.fetches (s : State) (g : Tag) : Prop := (s.entry g).state = .fetching ∧ (s.entry g).endingMark = false

/-- R107: the store of the earliest issue position. -/
theorem State.storeRequest_of_first {g : Tag} {before after : List Tag} (h : s.ort.issueOrder = before ++ g :: after)
    (hg : s.stores g) (hbefore : ∀ u ∈ before, ¬ s.stores u) :
    s.storeRequest =
      some (newOp (.store g) (.write (s.entry g).buffer) (s.entry g).localAddress (s.entry g).length) := by
  rw [State.storeRequest, List.find?_eq_some_iff_append.mpr ⟨by simpa [State.stores] using hg, before, after, h, ?_⟩]
  · rfl
  · intro u hu
    simpa [State.stores, imp_iff_not_or] using hbefore u hu

theorem State.storeRequest_of_none (h : ∀ u ∈ s.ort.issueOrder, ¬ s.stores u) : s.storeRequest = none := by
  rw [State.storeRequest, List.find?_eq_none.mpr ?_]
  · rfl
  · intro u hu
    simpa [State.stores] using h u hu

/-- R85: the fetch of the earliest issue position. -/
theorem State.fetchRequest_of_first {g : Tag} {before after : List Tag} (h : s.ort.issueOrder = before ++ g :: after)
    (hg : s.fetches g) (hbefore : ∀ u ∈ before, ¬ s.fetches u) :
    s.fetchRequest = some (newOp (.fetch g) .read (s.entry g).localAddress (s.entry g).length) := by
  rw [State.fetchRequest, List.find?_eq_some_iff_append.mpr ⟨by simpa [State.fetches] using hg, before, after, h, ?_⟩]
  · rfl
  · intro u hu
    simpa [State.fetches, imp_iff_not_or] using hbefore u hu

theorem State.fetchRequest_of_none (h : ∀ u ∈ s.ort.issueOrder, ¬ s.fetches u) : s.fetchRequest = none := by
  rw [State.fetchRequest, List.find?_eq_none.mpr ?_]
  · rfl
  · intro u hu
    simpa [State.fetches] using h u hu

/-- R64: a notify entry served leaves the ORT and the port, and what stands behind it is the head. -/
theorem State.serveNotify_blocks {e : ServiceEntry} {rest : List ServiceEntry} (hq : s.target.service = e :: rest)
    (offset : Nat) :
    (s.serveNotify e offset).target.service = rest ∧ (s.serveNotify e offset).port = s.port
      ∧ (s.serveNotify e offset).ort = s.ort := by
  rw [State.serveNotify_eq_respond]
  obtain ⟨t, k, -, -, h⟩ | ⟨-, h⟩ := State.popService_respond (s := s.withNotifyRecord e offset) hq .ok false []
  all_goals
    rw [h]
    exact ⟨rfl, rfl, rfl⟩

/-- Settles O47: by the head of the service queue, then the first store, then the first fetch. -/
theorem arbiterGrantsInOrder : Obligations.ArbiterGrantsInOrder := by
  intro s granted stores fetches
  refine ⟨exec_memoryGrant_of_busy, fun hport => ⟨fun e rest a hq hd => ?_, fun e rest offset hq hd => ⟨?_, ?_⟩,
    fun hq => ⟨fun g before after h hg hbefore => ?_, fun hstores => ⟨fun g before after h hg hbefore => ?_,
      fun hfetches => ?_⟩⟩⟩⟩
  · have hn : s.notifyAtHead = false := by rw [State.notifyAtHead_of_cons hq, hd]; rfl
    rw [exec_memoryGrant_of_choice hport hn (op := newOp .target e.request.body.memKind a e.request.body.length)]
    · cases e.request.body <;> rfl
    · rw [State.arbiterChoice, State.targetRequest_of_memory hq hd]
      rfl
  · exact exec_memoryGrant_of_notify hport (by rw [State.notifyAtHead_of_cons hq, hd]; rfl)
  · obtain ⟨hservice, hport', hort⟩ := State.serveNotify_blocks hq offset
    exact ⟨_, exec_notifyService_of_notify hq hd, hservice, hport'.trans hport, hort⟩
  · rw [exec_memoryGrant_of_choice hport (State.notifyAtHead_of_nil hq)
      (op := newOp (.store g) (.write (s.entry g).buffer) (s.entry g).localAddress (s.entry g).length)]
    · rfl
    · rw [State.arbiterChoice, State.targetRequest_of_nil hq, State.storeRequest_of_first h hg hbefore]
      rfl
  · rw [exec_memoryGrant_of_choice hport (State.notifyAtHead_of_nil hq)
      (op := newOp (.fetch g) .read (s.entry g).localAddress (s.entry g).length)]
    · rfl
    · rw [State.arbiterChoice, State.targetRequest_of_nil hq, State.storeRequest_of_none hstores,
        State.fetchRequest_of_first h hg hbefore]
      rfl
  · refine exec_memoryGrant_of_none hport (State.notifyAtHead_of_nil hq) ?_
    rw [State.arbiterChoice, State.targetRequest_of_nil hq, State.storeRequest_of_none hstores,
      State.fetchRequest_of_none hfetches]
    rfl

variable {s : State}

/-! ### Word accesses (R131, R132, R136) -/

/-- R136: what the local controller has set through its own side. -/
theorem Memory.read_otherSideWrite {m : List Host.Cell} (hm : Memory.wf m = true) {word : Nat}
    (h : 2 * word + 1 < localMemorySize) (v : BitVec 16) (a : Nat) :
    Memory.read (otherSideWrite m word (some v)) a =
      if a = 2 * word then v.extractLsb' 0 8
      else if a = 2 * word + 1 then v.extractLsb' 8 8
      else Memory.read m a := by
  rw [otherSideWrite,
    Memory.read_writeAt hm (f := fun x => if x = 2 * word then v.extractLsb' 0 8 else v.extractLsb' 8 8)]
  · by_cases h0 : a = 2 * word
    · simp [h0]
    · by_cases h1 : a = 2 * word + 1 <;> simp [h0, h1]
  · intro c hc
    simp only [List.mem_cons, List.not_mem_nil, or_false] at hc
    obtain rfl | rfl := hc
    · exact (Nat.lt_succ_self _).trans h
    · exact h
  · intro c hc
    simp only [List.mem_cons, List.not_mem_nil, or_false] at hc
    obtain rfl | rfl := hc <;> simp

/-- R131, R132: a write access writes its lanes, and no other byte. -/
theorem MemOp.read_access {op : MemOp} {m : List Host.Cell} (hm : Memory.wf m = true)
    (h : 2 * op.word + 1 < localMemorySize) (a : Nat) :
    Memory.read (op.access m) a =
      if op.writing = true ∧ a ∈ op.lanes then op.data.getD (a - op.address) 0 else Memory.read m a := by
  have hlanes : op.cells.map (fun c => c.1) = op.lanes := by simp [MemOp.cells, Function.comp_def]
  unfold MemOp.access
  cases hwriting : op.writing with
  | false => simp
  | true =>
    rw [if_pos rfl, Memory.read_writeAt hm (f := fun x => op.data.getD (x - op.address) 0), hlanes]
    · simp
    · intro c hc
      have hword := (MemOp.mem_lanes (MemOp.mem_cells hc).1).1
      omega
    · exact fun c hc => (MemOp.mem_cells hc).2

/-- R133: MREADY behind no access is ignored. -/
theorem exec_wordAccessComplete_of_idle (h : s.port = none) (other : Option (BitVec 16)) :
    exec (.wordAccessComplete other) s = .next s := by
  change execWordAccessComplete other s = _
  rw [execWordAccessComplete, h]

/-- R133: the access under way completes. -/
theorem exec_wordAccessComplete_of_access {op : MemOp} (h : s.port = some op)
    (hin : 2 * op.word + 1 < localMemorySize) (other : Option (BitVec 16)) :
    exec (.wordAccessComplete other) s = .next (s.completeAccess op other) := by
  change execWordAccessComplete other s = _
  rw [execWordAccessComplete, h]
  exact if_pos hin

/-- Log entry 16: an access outside local memory. -/
theorem exec_wordAccessComplete_of_outside {op : MemOp} (h : s.port = some op)
    (hout : ¬ 2 * op.word + 1 < localMemorySize) (other : Option (BitVec 16)) :
    exec (.wordAccessComplete other) s = .fault .noSuchLocalWord := by
  change execWordAccessComplete other s = _
  rw [execWordAccessComplete, h]
  exact if_neg hout

theorem State.completeAccess_of_finished {op : MemOp} {other : Option (BitVec 16)}
    (h : (op.advance (otherSideWrite s.localMem op.word other)).finished = true) :
    s.completeAccess op other =
      State.endOperation { s with localMem := op.access (otherSideWrite s.localMem op.word other) }
        (op.advance (otherSideWrite s.localMem op.word other)) false := by
  rw [State.completeAccess]
  exact if_pos h

theorem State.completeAccess_of_unfinished {op : MemOp} {other : Option (BitVec 16)}
    (h : ¬ (op.advance (otherSideWrite s.localMem op.word other)).finished = true) :
    s.completeAccess op other =
      State.beginAccess { s with localMem := op.access (otherSideWrite s.localMem op.word other) }
        (op.advance (otherSideWrite s.localMem op.word other)) := by
  rw [State.completeAccess]
  exact if_neg h

/-- R131, R136: when the access that completes is the last one. -/
theorem MemOp.finished_iff (op : MemOp) :
    op.finished = true ↔
      match op.kind with
      | .swap c _ => 4 ≤ op.completed ∨ (op.completed = 2 ∧ op.gathered ≠ c.toList)
      | _ => (op.address + op.length - 1) / 2 - op.address / 2 + 1 ≤ op.completed := by
  cases hk : op.kind <;> simp [MemOp.finished, wordCount, hk]

/-- Settles O48: the lanes by `MemOp.read_access`, the end by `MemOp.finished`. -/
theorem wordAccessReadsOrWritesItsLanes : Obligations.WordAccessReadsOrWritesItsLanes := by
  refine fun other s => ⟨fun h => exec_wordAccessComplete_of_idle h other, fun op hop => ?_⟩
  intro w writing written lanes before
  have hword : op.word = w := rfl
  have hwriting : writing ↔ op.writing = true := by
    cases hk : op.kind <;> simp [writing, MemOp.writing, hk]
  have hwritten : ∀ a, op.data.getD (a - op.address) 0 = written a := by
    intro a
    cases hk : op.kind <;> simp [written, MemOp.data, hk]
  refine ⟨fun hout => exec_wordAccessComplete_of_outside hop ?_ other, fun hin hmem => ?_⟩
  · rw [hword]
    exact fun h => by simp only [localMemorySize] at h; omega
  · have hsize : 2 * op.word + 1 < localMemorySize := by
      rw [hword]
      simp only [localMemorySize]
      omega
    have hbefore : ∀ a, Memory.read (otherSideWrite s.localMem op.word other) a = before a := by
      intro a
      cases other with
      | none => rfl
      | some v => exact Memory.read_otherSideWrite hmem hsize v a
    have hmem' := wf_otherSideWrite hmem hsize other
    refine ⟨op.access (otherSideWrite s.localMem op.word other),
      op.advance (otherSideWrite s.localMem op.word other), fun a => ⟨fun hw ha => ?_, fun hn => ?_⟩,
      ⟨_, fun hw => ?_, fun hn => ?_, rfl⟩, fun hlast => ?_, fun hlast => ?_⟩
    · rw [MemOp.read_access hmem' hsize, if_pos ⟨hwriting.mp hw, ha⟩, hwritten]
    · rw [MemOp.read_access hmem' hsize, if_neg fun h => hn ⟨hwriting.mpr h.1, h.2⟩, hbefore]
    · exact if_pos (hwriting.mp hw)
    · rw [if_neg fun h => hn (hwriting.mpr h), Memory.readAt, List.map_congr_left fun a _ => hbefore a]
      rfl
    · rw [exec_wordAccessComplete_of_access hop hsize, State.completeAccess_of_unfinished]
      · rfl
      · exact fun h => hlast ((MemOp.finished_iff _).mp h)
    · rw [exec_wordAccessComplete_of_access hop hsize,
        State.completeAccess_of_finished ((MemOp.finished_iff _).mpr hlast)]

/-! ### The end of an operation (R131, R134) -/

/-- R133: no access waits. -/
theorem exec_waitTimerExpiry_of_idle (h : s.port = none) : exec .waitTimerExpiry s = .next s := by
  change execWaitTimerExpiry s = _
  rw [execWaitTimerExpiry, h]

/-- R133, R134: the access has waited its limit. -/
theorem exec_waitTimerExpiry_of_expired {op : MemOp} (h : s.port = some op) (hw : op.wait = 0) :
    exec .waitTimerExpiry s = .next (s.endOperation op true) := by
  change execWaitTimerExpiry s = _
  rw [execWaitTimerExpiry, h]
  exact congrArg _ (if_pos hw)

/-- Log entry 7: the access has time remaining. -/
theorem exec_waitTimerExpiry_of_running {op : MemOp} (h : s.port = some op) (hw : op.wait ≠ 0) :
    exec .waitTimerExpiry s = .next s := by
  change execWaitTimerExpiry s = _
  rw [execWaitTimerExpiry, h]
  exact congrArg _ (if_neg hw)

/-- R133: behind a completed access the wait timer has the whole limit, or the port is idle. -/
theorem exec_waitTimerExpiry_of_completed {op : MemOp} {t : State} {other : Option (BitVec 16)}
    (h : s.port = some op) (hlimit : s.ctl.waitLimit ≠ 0) (ht : exec (.wordAccessComplete other) s = .next t) :
    exec .waitTimerExpiry t = .next t := by
  by_cases hin : 2 * op.word + 1 < localMemorySize
  · rw [exec_wordAccessComplete_of_access h hin] at ht
    cases ht
    by_cases hlast : (op.advance (otherSideWrite s.localMem op.word other)).finished = true
    · rw [State.completeAccess_of_finished hlast]
      exact exec_waitTimerExpiry_of_idle (State.endOperation_port _ _ _)
    · rw [State.completeAccess_of_unfinished hlast]
      exact exec_waitTimerExpiry_of_running rfl fun h0 => hlimit (BitVec.eq_of_toNat_eq h0)
  · rw [exec_wordAccessComplete_of_outside h hin] at ht
    cases ht

/-- The station with the operation ended at its port (R131), and a fault counted (R134). -/
def State.portIdle (s : State) (fault : Bool) : State :=
  { s with port := none, events := if fault then s.events.countMemoryFault else s.events }

theorem State.endOperation_of_discard {op : MemOp} (hr : op.requester = .target) (hd : op.discard = true)
    (fault : Bool) : s.endOperation op fault = s.portIdle fault := by
  rw [State.endOperation, hr]
  exact if_pos hd

theorem State.endOperation_of_target {op : MemOp} (hr : op.requester = .target) (hd : op.discard = false)
    (fault : Bool) : s.endOperation op fault = (s.portIdle fault).finishService op fault := by
  rw [State.endOperation, hr]
  exact if_neg (by simp [hd])

theorem State.endOperation_of_fetch {op : MemOp} {g : Tag} (hr : op.requester = .fetch g) (fault : Bool) :
    s.endOperation op fault = (s.portIdle fault).finishFetch g op fault := by
  rw [State.endOperation, hr]
  rfl

theorem State.endOperation_of_store {op : MemOp} {g : Tag} (hr : op.requester = .store g) (fault : Bool) :
    s.endOperation op fault = (s.portIdle fault).finishStore g fault := by
  rw [State.endOperation, hr]
  rfl

/-- R85, R114: the end of a fetch. -/
theorem State.finishFetch_of_mark {g : Tag} {op : MemOp} (hs : (s.entry g).state = .fetching)
    (hm : (s.entry g).endingMark = true) (fault : Bool) :
    s.finishFetch g op fault = s.enterDone g { s.entry g with buffer := op.gathered } .aborted := by
  rw [State.finishFetch]
  exact (if_pos hs).trans (if_pos hm)

theorem State.finishFetch_of_wanted {g : Tag} {op : MemOp} (hs : (s.entry g).state = .fetching)
    (hm : (s.entry g).endingMark = false) (fault : Bool) :
    s.finishFetch g op fault =
      if fault then
        (s.enterDone g { s.entry g with buffer := op.gathered } .localFault).onEvents (fun ev =>
          ev.raiseFault .localMemoryFault ⟨.localMemoryFault, s.ctl.station, .absent⟩)
      else s.setEntry g { s.entry g with buffer := op.gathered, state := .ready } := by
  rw [State.finishFetch]
  exact (if_pos hs).trans (if_neg (by simp [hm]))

/-- R108, R114: the end of a store. -/
theorem State.finishStore_of_mark {g : Tag} (hs : (s.entry g).state = .storing)
    (hm : (s.entry g).endingMark = true) (fault : Bool) :
    s.finishStore g fault = s.enterDone g (s.entry g) .aborted := by
  rw [State.finishStore]
  exact (if_pos hs).trans (if_pos hm)

theorem State.finishStore_of_wanted {g : Tag} (hs : (s.entry g).state = .storing)
    (hm : (s.entry g).endingMark = false) (fault : Bool) :
    s.finishStore g fault =
      if fault then
        (s.enterDone g (s.entry g) .localFault).onEvents (fun ev =>
          ev.raiseFault .localMemoryFault
            ⟨.localMemoryFault, s.ctl.station, storeFaultDetail (s.entry g)⟩)
      else s.enterDone g (s.entry g) .ok := by
  rw [State.finishStore]
  exact (if_pos hs).trans (if_neg (by simp [hm]))

/-- The Target Engine once the head has been answered (R65), as `State.popService_respond` gives it. -/
def TargetEngine.answered (x : TargetEngine) (e : ServiceEntry) (rest : List ServiceEntry) (status : CplStatus)
    (swapped : Bool) (data : List Byte) : TargetEngine :=
  match e.request.body.tag, e.reservation with
  | some t, .live k =>
    { x with service := rest, responses := x.responses ++ [⟨e.request.source, t, status, swapped, data, k, 0, false⟩] }
  | _, _ => { x with service := rest }

theorem State.popService_respond_eq {e : ServiceEntry} {rest : List ServiceEntry}
    (hq : s.target.service = e :: rest) (status : CplStatus) (swapped : Bool) (data : List Byte) :
    (s.respond e status swapped data).popService =
      { s with target := s.target.answered e rest status swapped data } := by
  unfold TargetEngine.answered
  split
  · next t k ht hk => exact State.popService_respond_live hq ht hk status swapped data
  · next hnot =>
    refine State.popService_respond_dead hq ?_ status swapped data
    cases ht : e.request.body.tag with
    | none => exact .inl rfl
    | some t => exact .inr fun k => hnot t k ht

/-- Settles O49: by the requester, and for the target by the request at the head. -/
theorem operationEndsAtItsRequester : Obligations.OperationEndsAtItsRequester := by
  refine fun s => ⟨exec_waitTimerExpiry_of_idle, fun op hop => ⟨exec_waitTimerExpiry_of_expired hop,
    exec_waitTimerExpiry_of_running hop⟩, fun op other t hop hw hlimit => ⟨fun ht => ?_, fun ht => ?_⟩,
    fun op fault => ?_⟩
  · exact exec_waitTimerExpiry_of_completed hop hlimit ht
  · rw [exec_waitTimerExpiry_of_expired hop hw] at ht
    cases ht
    exact exec_wordAccessComplete_of_idle (State.endOperation_port _ _ _) other
  · intro idle
    have hidle : s.portIdle fault = idle := rfl
    refine ⟨fun hr hd => State.endOperation_of_discard hr hd fault, fun e rest hr hd hq => ?_,
      fun g hr hs => ⟨fun hm => ?_, fun hm => ?_⟩, fun g hr hs => ⟨fun hm => ?_, fun hm => ?_⟩⟩
    · intro served answered
      have hanswered : ∀ st sw d, ((s.portIdle fault).respond e st sw d).popService =
          { s.portIdle fault with target := answered st sw d } :=
        fun st sw d => State.popService_respond_eq (s := s.portIdle fault) hq st sw d
      have hserved : (s.portIdle fault).popService = { s.portIdle fault with target := served } := by
        rw [State.popService]
        change { s.portIdle fault with target := { s.target with service := s.target.service.tail } } = _
        rw [hq]
        rfl
      have hq' : (s.portIdle fault).target.service = e :: rest := hq
      rw [State.endOperation_of_target hr hd, State.finishService, hq']
      dsimp only
      cases hb : e.request.body with
      | write data =>
        cases fault with
        | false => exact hserved
        | true =>
          exact congrArg (fun u : State => u.onEvents fun ev =>
            ev.raiseFault .targetWriteFault ⟨.targetWriteFault, s.ctl.station, .window e.window⟩) hserved
      | writeAcked t data => cases fault <;> exact hanswered _ _ _
      | read t k => cases fault <;> exact hanswered _ _ _
      | swap t c n => cases fault <;> exact hanswered _ _ _
    · rw [State.endOperation_of_fetch hr]
      exact State.finishFetch_of_mark (s := s.portIdle fault) hs hm fault
    · rw [State.endOperation_of_fetch hr]
      exact State.finishFetch_of_wanted (s := s.portIdle fault) hs hm fault
    · rw [State.endOperation_of_store hr]
      exact State.finishStore_of_mark (s := s.portIdle fault) hs hm fault
    · rw [State.endOperation_of_store hr]
      exact State.finishStore_of_wanted (s := s.portIdle fault) hs hm fault

end Sys2Proof.Machine
end

section
/-! PROOFS. Chapters 2 to 4 and 6 (receptions): a clean frame step by step (R25), the request frame (O32) and the
completion frame (O33). -/

namespace Sys2Proof.Machine

variable {s : State}

/-! ### A clean frame, step by step (R25) -/

/-- R23: the receiver takes a request or completion frame in these cases. -/
theorem State.receives_iff (s : State) :
    s.receives = true ↔ s.receiverOn = true ∧ s.tif.incoming = true ∧ s.tifQuiet = true := by
  rw [State.receives, Bool.and_eq_true, State.hearsFrame_iff]
  constructor
  · rintro ⟨⟨hon, -, hin⟩, hquiet⟩
    exact ⟨hon, hin, hquiet⟩
  · rintro ⟨hon, hin, hquiet⟩
    exact ⟨⟨hon, (s.tifQuiet_iff.mp hquiet).1, hin⟩, hquiet⟩

/-- R23: with the receiver off, no frame incoming or an own exchange under way, no such frame is received. -/
theorem State.receives_eq_false (h : s.ctl.station ∈ [StationState.loading, .config] ∨ s.tif.incoming = false
    ∨ s.tifQuiet = false) : s.receives = false := by
  rw [← Bool.not_eq_true, State.receives_iff]
  rintro ⟨hon, hin, hquiet⟩
  obtain h | h | h := h
  · simp [(receiverOff_iff s).mpr h] at hon
  · simp [h] at hin
  · simp [h] at hquiet

theorem exec_requestFrameReceived_of_deaf (h : s.receives = false) (f : ReqFrame) :
    exec (.requestFrameReceived f) s = .next s := by
  change execRequestFrameReceived f s = _
  rw [execRequestFrameReceived, if_neg (by simp [h])]

/-- R25: a clean request frame. -/
theorem exec_requestFrameReceived_of_wf (h : s.receives = true) {f : ReqFrame} (hf : f.wf = true) :
    exec (.requestFrameReceived f) s = .next (s.receive (.request f) none) := by
  change execRequestFrameReceived f s = _
  rw [execRequestFrameReceived, if_pos h, if_pos hf]

theorem exec_completionFrameReceived_of_deaf (h : s.receives = false) (f : CplFrame) :
    exec (.completionFrameReceived f) s = .next s := by
  change execCompletionFrameReceived f s = _
  rw [execCompletionFrameReceived, if_neg (by simp [h])]

/-- R25: a clean COMPLETION. -/
theorem exec_completionFrameReceived_of_wf (h : s.receives = true) {f : CplFrame} (hf : f.wf = true) :
    exec (.completionFrameReceived f) s = .next (s.receive (.completion f) none) := by
  change execCompletionFrameReceived f s = _
  rw [execCompletionFrameReceived, if_pos h, if_pos hf]

/-- R23: at a quiet station the receiver takes a corrupt frame whenever it takes a clean one. -/
theorem State.hearsFrame_of_quiet (h : s.tifQuiet = true) : s.hearsFrame = s.receives := by
  rw [State.receives, h, Bool.and_true]

/-- R23: an ill-formed request frame is a corrupt reception. -/
theorem exec_requestFrameReceived_of_illFormed (hquiet : s.tifQuiet = true) {f : ReqFrame} (hf : f.wf = false) :
    exec (.requestFrameReceived f) s = exec (.corruptReception true) s := by
  change execRequestFrameReceived f s = execCorruptReception true s
  rw [execRequestFrameReceived, execCorruptReception, State.hearsFrame_of_quiet hquiet, hf]
  rfl

/-- R23: an ill-formed COMPLETION is a corrupt reception. -/
theorem exec_completionFrameReceived_of_illFormed (hquiet : s.tifQuiet = true) {f : CplFrame} (hf : f.wf = false) :
    exec (.completionFrameReceived f) s = exec (.corruptReception true) s := by
  change execCompletionFrameReceived f s = execCorruptReception true s
  rw [execCompletionFrameReceived, execCorruptReception, State.hearsFrame_of_quiet hquiet, hf]
  rfl

/-- R48: the Presence Monitor alone hears a frame in DETACHED. -/
theorem State.presenceHeard_eq (s : State) (src : StationNo) :
    s.presenceHeard src = { s.heard src with access := s.access } := by
  rw [← State.presenceHeard_accessHeard]
  unfold State.presenceHeard
  split <;> rfl

/-- R25: in DETACHED a frame reaches the Presence Monitor alone. -/
theorem State.receive_of_detached (h : s.ctl.station = .detached) (f : Frame) (sender : Option Origin) :
    s.receive f sender = (s.presenceHeard f.source).afterFrame f sender .none := by
  rw [State.receive]
  exact if_pos h

/-- R35: a frame of the own number that the station did not send. -/
theorem State.receive_of_duplicate (h : s.ctl.station ≠ .detached) {f : Frame} (hf : f.source = s.ctl.number) :
    s.receive f none = (s.heard f.source).duplicate f := by
  rw [State.receive, ← State.presenceHeard_accessHeard]
  exact (if_neg h).trans (if_pos ⟨rfl, hf⟩)

/-- R25: any other frame goes on by its kind. -/
theorem State.receive_of_kind (h : s.ctl.station ≠ .detached) {f : Frame} {sender : Option Origin}
    (hf : ¬ (sender = none ∧ f.source = s.ctl.number)) :
    s.receive f sender = (s.heard f.source).handByKind f sender := by
  rw [State.receive, ← State.presenceHeard_accessHeard]
  exact (if_neg h).trans (if_neg hf)

/-- R22: a slot follows the request frame. -/
theorem State.afterFrame_of_request (hquiet : s.tif.uninvolved = true) (r : ReqFrame) (sender : Option Origin)
    (mark : Mark) : s.afterFrame (.request r) sender mark = s.slotAhead sender mark :=
  s.afterFrame_slot _ sender mark hquiet fun _ => nofun

/-- R22: a slot follows the COMPLETION. -/
theorem State.afterFrame_of_completion (hquiet : s.tif.uninvolved = true) (c : CplFrame) (sender : Option Origin)
    (mark : Mark) : s.afterFrame (.completion c) sender mark = s.slotAhead sender mark :=
  s.afterFrame_slot _ sender mark hquiet fun _ => nofun

/-- R25, R56: in ONLINE the claim decision follows. -/
theorem State.handByKind_request_online (hquiet : s.tif.uninvolved = true) (h : s.ctl.station = .online)
    (r : ReqFrame) (sender : Option Origin) :
    s.handByKind (.request r) sender = (s.decideClaim r).1.slotAhead sender (s.decideClaim r).2 := by
  rw [State.handByKind]
  refine (if_pos h).trans (State.afterFrame_of_request ?_ r sender _)
  rwa [State.decideClaim_tif]

/-- R25: elsewhere it is not decoded. -/
theorem State.handByKind_request_other (hquiet : s.tif.uninvolved = true) (h : s.ctl.station ≠ .online)
    (r : ReqFrame) (sender : Option Origin) : s.handByKind (.request r) sender = s.slotAhead sender .none := by
  rw [State.handByKind]
  exact (if_neg h).trans (State.afterFrame_of_request hquiet r sender _)

/-- R25, R28: a COMPLETION to the own number reaches the ORT, and is acknowledged on the trunk. -/
theorem State.handByKind_completion_own (hquiet : s.tif.uninvolved = true) {c : CplFrame}
    (h : c.destination = s.ctl.number) (sender : Option Origin) :
    s.handByKind (.completion c) sender =
      (s.ortCompletion c).slotAhead sender (if s.onTrunk then .completion else .none) := by
  rw [State.handByKind]
  refine (if_pos h).trans (State.afterFrame_of_completion ?_ c sender _)
  rwa [State.ortCompletion_tif]

/-- R25: a COMPLETION to another number. -/
theorem State.handByKind_completion_other (hquiet : s.tif.uninvolved = true) {c : CplFrame}
    (h : c.destination ≠ s.ctl.number) (sender : Option Origin) :
    s.handByKind (.completion c) sender = s.slotAhead sender .none := by
  rw [State.handByKind]
  exact (if_neg h).trans (State.afterFrame_of_completion hquiet c sender _)

/-! ### The claim decision (R56, R57) -/

/-- R57: the capacity conditions. -/
theorem State.targetFull_iff (s : State) (f : ReqFrame) (dest : Dest) :
    s.targetFull f dest = true ↔
      8 ≤ s.target.service.length ∨ (f.body.tag.isSome = true ∧ 8 ≤ s.target.nonPosted)
        ∨ (dest.isNotify = true ∧ 16 ≤ s.mailbox.records.length + s.mailbox.reserved) := by
  simp only [State.targetFull, Bool.or_eq_true, Bool.and_eq_true, decide_eq_true_eq, or_assoc]
  cases dest with
  | memory a => exact or_congr_right (or_congr_right (by simp [Dest.isNotify]))
  | notify offset => exact or_congr_right (or_congr_right (decide_eq_true_iff.trans (and_iff_right rfl).symm))

theorem State.decideClaim_of_noMatch {f : ReqFrame} (h : lookup s.windows f = .noMatch) :
    s.decideClaim f = (s, .none) := by
  rw [State.decideClaim, h]

/-- R14: a refusal is recorded and counted. -/
theorem State.decideClaim_of_refuse {f : ReqFrame} {w : WindowIdx} {reason : RefusalReason}
    (h : lookup s.windows f = .refuse w reason) :
    s.decideClaim f = (s.recordRefusal w reason f.source, .claim ⟨w, f, .refuse⟩) := by
  rw [State.decideClaim, h]

/-- R57: a permitted request that finds no room. -/
theorem State.decideClaim_of_full {f : ReqFrame} {w : WindowIdx} {dest : Dest}
    (h : lookup s.windows f = .permitted w dest) (hfull : s.targetFull f dest = true) :
    s.decideClaim f = (s.onEvents EventUnit.countBusy, .claim ⟨w, f, .busy⟩) := by
  rw [State.decideClaim, h]
  exact if_pos hfull

/-- R56: a permitted request that finds room. -/
theorem State.decideClaim_of_room {f : ReqFrame} {w : WindowIdx} {dest : Dest}
    (h : lookup s.windows f = .permitted w dest) (hroom : ¬ s.targetFull f dest = true) :
    s.decideClaim f = (s, .claim ⟨w, f, .accept dest⟩) := by
  rw [State.decideClaim, h]
  exact if_neg hroom

/-- R25: a clean request frame of another station outside DETACHED. -/
theorem exec_requestFrameReceived_of_other {f : ReqFrame} (h : s.receives = true) (hf : f.wf = true)
    (hsrc : f.source ≠ s.ctl.number) (hs : s.ctl.station ≠ .detached) :
    exec (.requestFrameReceived f) s = .next ((s.heard f.source).handByKind (.request f) none) := by
  rw [exec_requestFrameReceived_of_wf h hf, State.receive_of_kind (f := .request f) hs fun hown => hsrc hown.2]
  rfl

/-- Settles O32: by the station state, and in ONLINE by the Window Decoder's result. -/
theorem requestFrameIsDecided : Obligations.RequestFrameIsDecided := by
  refine fun f s => ⟨fun h => exec_requestFrameReceived_of_deaf (State.receives_eq_false h) f,
    fun hquiet hf => exec_requestFrameReceived_of_illFormed hquiet hf, fun hf hquiet hin => ?_⟩
  have hfree : (s.heard f.source).tif.uninvolved = true := (s.tifQuiet_iff.mp hquiet).2
  have hears : ∀ st ∈ [StationState.joining, .online, .draining, .detached], s.ctl.station = st →
      s.receives = true :=
    fun st hst hs => s.receives_iff.mpr ⟨s.receiverOn_iff.mpr (hs ▸ hst), hin, hquiet⟩
  refine ⟨fun hsrc hs => ?_, fun hsrc hs => ?_, fun hs => ?_⟩
  · rw [exec_requestFrameReceived_of_other (hears .online (by decide) hs) hf hsrc (by rw [hs]; decide),
      State.handByKind_request_online hfree hs]
    refine ⟨fun hl => ?_, fun w reason hl => ?_, fun w dest hl => ?_⟩
    · rw [State.decideClaim_of_noMatch (s := s.heard f.source) hl]
    · rw [State.decideClaim_of_refuse (s := s.heard f.source) hl]
      rfl
    · intro full
      have hfull : full ↔ (s.heard f.source).targetFull f dest = true :=
        ((s.heard f.source).targetFull_iff f dest).symm
      refine ⟨fun h => ?_, fun h => ?_⟩
      · rw [State.decideClaim_of_full (s := s.heard f.source) hl (hfull.mp h)]
        rfl
      · rw [State.decideClaim_of_room (s := s.heard f.source) hl fun hc => h (hfull.mpr hc)]
  · have hhears : s.receives = true := by
      simp only [List.mem_cons, List.not_mem_nil, or_false] at hs
      obtain hs | hs := hs
      · exact hears _ (by decide) hs
      · exact hears _ (by decide) hs
    have hnot : s.ctl.station ≠ .detached ∧ s.ctl.station ≠ .online := by
      revert hs
      cases s.ctl.station <;> decide
    rw [exec_requestFrameReceived_of_other hhears hf hsrc hnot.1, State.handByKind_request_other hfree hnot.2]
  · rw [exec_requestFrameReceived_of_wf (hears .detached (by decide) hs) hf, State.receive_of_detached hs,
      State.presenceHeard_eq]
    exact congrArg _
      (State.afterFrame_of_request (s := { s.heard f.source with access := s.access }) hfree f none .none)

/-! ### A COMPLETION at the ORT (R101 to R104, R33) -/

/-- R101: in JOINING it is late. -/
theorem State.ortCompletion_of_joining (h : s.ctl.station = .joining) (f : CplFrame) :
    s.ortCompletion f = s.onEvents EventUnit.countLate := by
  rw [State.ortCompletion]
  exact if_pos h

/-- R102: the entry of the COMPLETION's tag awaits it from its source. -/
def OrtEntry.matches (e : OrtEntry) (f : CplFrame) : Prop := (∃ k, e.state = .awaiting k) ∧ e.target = some f.source

/-- R102, R103: a matched COMPLETION that fits the op. -/
theorem State.ortCompletion_of_fits (hs : s.ctl.station ≠ .joining) {f : CplFrame} (h : (s.entry f.tag).matches f)
    (hfits : f.fits (s.entry f.tag) = true) : s.ortCompletion f = s.matchedCompletion f (s.entry f.tag) := by
  obtain ⟨⟨k, hk⟩, ht⟩ := h
  rw [State.ortCompletion, if_neg hs]
  dsimp only
  rw [hk]
  exact (if_pos ht).trans (if_pos hfits)

/-- R102: a matched COMPLETION that does not. -/
theorem State.ortCompletion_of_misfit (hs : s.ctl.station ≠ .joining) {f : CplFrame} (h : (s.entry f.tag).matches f)
    (hfits : f.fits (s.entry f.tag) = false) : s.ortCompletion f = s.onEvents EventUnit.countMalformed := by
  obtain ⟨⟨k, hk⟩, ht⟩ := h
  rw [State.ortCompletion, if_neg hs]
  dsimp only
  rw [hk]
  exact (if_pos ht).trans (if_neg (by simp [hfits]))

/-- R104: a COMPLETION for a STALE entry frees it. -/
theorem State.ortCompletion_of_stale (hs : s.ctl.station ≠ .joining) {f : CplFrame} {k : Nat}
    (h : (s.entry f.tag).state = .stale k) : s.ortCompletion f = (s.freeEntry f.tag).onEvents EventUnit.countLate := by
  rw [State.ortCompletion, if_neg hs]
  dsimp only
  rw [h]

/-- R104: any other COMPLETION is late. -/
theorem State.ortCompletion_of_late (hs : s.ctl.station ≠ .joining) {f : CplFrame}
    (h : ¬ (s.entry f.tag).matches f) (hstale : ∀ k, (s.entry f.tag).state ≠ .stale k) :
    s.ortCompletion f = s.onEvents EventUnit.countLate := by
  rw [State.ortCompletion, if_neg hs]
  dsimp only
  cases hst : (s.entry f.tag).state with
  | awaiting k => exact if_neg fun ht => h ⟨⟨k, hst⟩, ht⟩
  | stale k => exact absurd hst (hstale k)
  | free | fetching | ready | hold _ | storing | done => rfl

/-- The four bytes of a word are read back from it. -/
theorem word4At_toList (v : Word4) : word4At v.toList 0 = v := by
  rw [Word4.toList_eq]
  refine Vector.ext fun i hi => ?_
  interval_cases i <;> rfl

/-- R103: what a matched COMPLETION that fits does, by its status and the op. -/
theorem State.matchedCompletion_of_ok {f : CplFrame} (h : f.status = .ok) (s : State) (e : OrtEntry) :
    (e.op = .read → s.matchedCompletion f e = s.setEntry f.tag { e with state := .storing, buffer := f.data }) ∧
    (e.op = .swap → s.matchedCompletion f e =
      s.enterDone f.tag { e with oldValue := some (word4At f.data 0), swapped := some f.swapped } .ok) ∧
    (e.op = .writeAcked → s.matchedCompletion f e = s.enterDone f.tag e .ok) := by
  refine ⟨fun hop => ?_, fun hop => ?_, fun hop => ?_⟩
  all_goals
    rw [State.matchedCompletion, h]
    dsimp only
    rw [hop]

/-- R103: a MEMORY_FAULT ends the entry. -/
theorem State.matchedCompletion_of_memoryFault {f : CplFrame} (h : f.status = .memoryFault) (s : State)
    (e : OrtEntry) : s.matchedCompletion f e = s.enterDone f.tag e .remoteFault := by
  rw [State.matchedCompletion, h]

/-- R101, R25: a clean COMPLETION to the own number, of another station, on the trunk. -/
theorem exec_completionFrameReceived_own {f : CplFrame} (hf : f.wf = true) (hquiet : s.tifQuiet = true)
    (hin : s.tif.incoming = true) (hsrc : f.source ≠ s.ctl.number) (hdst : f.destination = s.ctl.number)
    (hs : s.ctl.station ∈ [StationState.joining, .online, .draining]) :
    exec (.completionFrameReceived f) s = .next
      (((s.heard f.source).ortCompletion f).slotAhead none (if s.onTrunk then .completion else .none)) := by
  have hon : s.ctl.station ∈ [StationState.joining, .online, .draining, .detached] ∧ s.ctl.station ≠ .detached := by
    revert hs
    cases s.ctl.station <;> decide
  rw [exec_completionFrameReceived_of_wf (s.receives_iff.mpr ⟨s.receiverOn_iff.mpr hon.1, hin, hquiet⟩) hf,
    State.receive_of_kind (f := .completion f) hon.2 fun hown => hsrc hown.2]
  exact congrArg _ (State.handByKind_completion_own (s := s.heard f.source) (s.tifQuiet_iff.mp hquiet).2 hdst none)

/-- R102: when a COMPLETION fits its entry. -/
theorem CplFrame.fits_eq_false_of_misfit {f : CplFrame} {e : OrtEntry}
    (h : (f.status = .memoryFault ∧ (f.data ≠ [] ∨ f.swapped = true))
      ∨ (f.status = .ok ∧ e.op = .read ∧ (f.data.length ≠ e.length ∨ f.swapped = true))
      ∨ (f.status = .ok ∧ e.op = .swap ∧ f.data.length ≠ 4)
      ∨ (f.status = .ok ∧ e.op = .writeAcked ∧ (f.data ≠ [] ∨ f.swapped = true))) : f.fits e = false := by
  obtain ⟨hs, h⟩ | ⟨hs, ho, h⟩ | ⟨hs, ho, h⟩ | ⟨hs, ho, h⟩ := h
  · cases ho : e.op <;> simp [CplFrame.fits, hs, ho] <;> exact fun hd => h.resolve_left (not_not_intro hd)
  · simp only [CplFrame.fits, hs, ho]
    simpa using fun hd => h.resolve_left (not_not_intro hd)
  · simpa [CplFrame.fits, hs, ho] using h
  · simp only [CplFrame.fits, hs, ho]
    simpa using fun hd => h.resolve_left (not_not_intro hd)

/-- Settles O33: by the station state, then by the entry of the COMPLETION's tag. -/
theorem completionFrameIsMatched : Obligations.CompletionFrameIsMatched := by
  refine fun f s => ⟨fun h => exec_completionFrameReceived_of_deaf (State.receives_eq_false h) f,
    fun hquiet hf => exec_completionFrameReceived_of_illFormed hquiet hf, fun hf hquiet hin => ?_⟩
  intro h e late
  have hfree : h.tif.uninvolved = true := (s.tifQuiet_iff.mp hquiet).2
  have hears : s.ctl.station ∈ [StationState.joining, .online, .draining, .detached] → s.receives = true :=
    fun hs => s.receives_iff.mpr ⟨s.receiverOn_iff.mpr hs, hin, hquiet⟩
  refine ⟨fun hsrc hdst hs => ?_, fun hs => ?_, fun hsrc hdst => ⟨fun hs => ?_, fun hs => ?_⟩⟩
  · have hon : s.ctl.station ∈ [StationState.joining, .online, .draining, .detached] ∧ s.ctl.station ≠ .detached := by
      revert hs
      cases s.ctl.station <;> decide
    rw [exec_completionFrameReceived_of_wf (hears hon.1) hf,
      State.receive_of_kind (f := .completion f) hon.2 fun hown => hsrc hown.2]
    exact congrArg _ (State.handByKind_completion_other (s := h) hfree hdst none)
  · rw [exec_completionFrameReceived_of_wf (hears (by rw [hs]; decide)) hf, State.receive_of_detached hs,
      State.presenceHeard_eq]
    exact congrArg _ (State.afterFrame_of_completion (s := { h with access := s.access }) hfree f none .none)
  · have hoff : s.onTrunk = false := by simp [State.onTrunk, hs]
    rw [exec_completionFrameReceived_own hf hquiet hin hsrc hdst (by rw [hs]; decide), hoff,
      State.ortCompletion_of_joining (s := s.heard f.source) hs]
    rfl
  · intro matched
    have hon : s.onTrunk = true ∧ s.ctl.station ≠ .joining ∧
        s.ctl.station ∈ [StationState.joining, .online, .draining] := by
      rw [State.onTrunk]
      revert hs
      cases s.ctl.station <;> decide
    obtain ⟨htrunk, hnot, hlistens⟩ := hon
    have hgives : ∀ u : State, h.ortCompletion f = u →
        exec (.completionFrameReceived f) s = .next (u.slotAhead none .completion) := by
      rintro _ rfl
      rw [exec_completionFrameReceived_own hf hquiet hin hsrc hdst hlistens, htrunk]
      rfl
    refine ⟨fun hm hst hop hlen hsw => hgives _ ?_, fun v hm hst hop hd => hgives _ ?_,
      fun hm hst hop hd hsw => hgives _ ?_, fun hm hst hop hd hsw => hgives _ ?_,
      fun hm hbad => hgives _ (State.ortCompletion_of_misfit (s := h) hnot hm (CplFrame.fits_eq_false_of_misfit hbad)),
      fun ⟨k, hk⟩ => hgives _ (State.ortCompletion_of_stale (s := h) hnot hk),
      fun hm hk => hgives _ (State.ortCompletion_of_late (s := h) hnot hm hk)⟩
    · have hfits : f.fits e = true := by simp [CplFrame.fits, hst, hop, hlen, hsw]
      exact (State.ortCompletion_of_fits (s := h) hnot hm hfits).trans ((h.matchedCompletion_of_ok hst e).1 hop)
    · have hfits : f.fits e = true := by simp [CplFrame.fits, hst, hop, hd]
      rw [← word4At_toList v, ← hd]
      exact (State.ortCompletion_of_fits (s := h) hnot hm hfits).trans ((h.matchedCompletion_of_ok hst e).2.1 hop)
    · have hfits : f.fits e = true := by simp [CplFrame.fits, hst, hop, hd, hsw]
      exact (State.ortCompletion_of_fits (s := h) hnot hm hfits).trans ((h.matchedCompletion_of_ok hst e).2.2 hop)
    · have hfits : f.fits e = true := by
        cases ho : e.op with
        | write => exact absurd ho hop
        | writeAcked | read | swap => simp [CplFrame.fits, hst, ho, hd, hsw]
      exact (State.ortCompletion_of_fits (s := h) hnot hm hfits).trans (h.matchedCompletion_of_memoryFault hst e)

end Sys2Proof.Machine
end

section
/-! PROOFS. Chapters 2, 3 and 11 (the trunk side): an own frame sent (O29), a collision (O30), BEACON and corrupt
receptions (O34), a duplicate (O35), the contention slots (O28). -/

namespace Sys2Proof.Machine

variable {s : State}

/-! ### Frames, as the Trunk Interface and the Presence Monitor take them -/

/-- R48: the own number's entry is SELF, and stays so. -/
theorem State.heard_of_self {src : StationNo} (h : s.presence.table[src] = .self) :
    s.heard src = { s with access := { s.access with rotation := src, sync := .inSync } } := by
  rw [State.heard, h, if_pos rfl, if_neg nofun]

/-- R22: no slot follows a BEACON. -/
theorem State.handByKind_beacon (s : State) (src : StationNo) (sender : Option Origin) :
    s.handByKind (.beacon src) sender = { s with tif := s.tif.frameEnded none } := rfl

/-- R22, log entry 10: behind a BEACON the station follows a slot only when it has part in it. -/
theorem Tif.frameEnded_none (t : Tif) :
    t.frameEnded none =
      { t with exchange := if t.uninvolved then none else t.exchange, incoming := false, trunk := .busy } := by
  cases h : t.uninvolved with
  | true => simp [h]
  | false => simp [Tif.frameEnded_involved h none nofun]

/-! ### An own frame sent to its end (R43 to R45) -/

theorem exec_ownFrameSent_of_none (h : s.tif.tx = none) : exec .ownFrameSent s = .next s := by
  change execOwnFrameSent s = _
  rw [execOwnFrameSent, h]

/-- The station with its own frame off the wire. -/
def State.wireFree (s : State) : State := { s with tif := Tif.busyWith none }

/-- R25, R43: on the trunk it is an own transmission, and a clean reception that goes on by its kind. -/
theorem exec_ownFrameSent_of_onTrunk {tx : Transmission} (h : s.tif.tx = some tx) (hon : s.onTrunk = true) :
    exec .ownFrameSent s = .next
      ((s.wireFree.ownTransmission.heard tx.frame.source).handByKind tx.frame (some tx.origin)) := by
  have hdet : s.ctl.station ≠ .detached := by
    intro hs
    simp [State.onTrunk, hs] at hon
  change execOwnFrameSent s = _
  rw [execOwnFrameSent, h]
  dsimp only
  rw [if_pos hon]
  exact congrArg _ (State.receive_of_kind (s := s.wireFree.ownTransmission) hdet fun hown => nomatch hown.1)

/-- R22: after ABORT, or in LOADING, the frame ends and its slot is followed. -/
theorem exec_ownFrameSent_of_left {tx : Transmission} (h : s.tif.tx = some tx) (hoff : s.onTrunk = false)
    (hs : s.ctl.station ≠ .detached) :
    exec .ownFrameSent s = .next (s.wireFree.afterFrame tx.frame (some tx.origin) .none) := by
  change execOwnFrameSent s = _
  rw [execOwnFrameSent, h]
  dsimp only
  rw [if_neg (by simp [hoff]), if_neg hs]
  rfl

/-- R22: in DETACHED the Presence Monitor hears it too, but the own entry is SELF. -/
theorem exec_ownFrameSent_of_detached {tx : Transmission} (h : s.tif.tx = some tx) (hs : s.ctl.station = .detached)
    (hself : s.presence.table[tx.frame.source] = .self) :
    exec .ownFrameSent s = .next (s.wireFree.afterFrame tx.frame (some tx.origin) .none) := by
  change execOwnFrameSent s = _
  rw [execOwnFrameSent, h]
  dsimp only
  rw [if_neg (by simp [State.onTrunk, hs]), if_pos hs]
  refine congrArg _ ((State.receive_of_detached (s := s.wireFree) hs _ _).trans ?_)
  rw [State.presenceHeard_self (s := s.wireFree) hself]

/-- Settles O29: by the station state, then by the kind of the frame. -/
theorem ownFrameSentCounts : Obligations.OwnFrameSentCounts := by
  refine fun s => ⟨exec_ownFrameSent_of_none, fun f o h => ?_⟩
  intro after sent still
  refine ⟨fun hs hself => ?_, fun hs => ?_⟩
  · have hon : s.onTrunk = true := s.onTrunk_iff.mpr (by simpa using hs)
    have hsent : s.wireFree.ownTransmission.heard f.source = sent :=
      State.heard_of_self (s := s.wireFree.ownTransmission) hself
    rw [exec_ownFrameSent_of_onTrunk h hon, hsent]
    have hquiet : sent.tif.uninvolved = true := rfl
    refine ⟨fun src hf => ?_, fun r hf => ?_, fun c hf => ?_⟩
    · rw [hf, State.handByKind_beacon]
      rfl
    · rw [hf]
      split
      · next honline => rw [State.handByKind_request_online hquiet honline]
      · next honline => rw [State.handByKind_request_other hquiet honline]
    · rw [hf]
      split
      · next hd =>
        rw [State.handByKind_completion_own hquiet hd]
        exact congrArg _ (congrArg _ (if_pos hon))
      · next hd => rw [State.handByKind_completion_other hquiet hd]
  · have hfree : exec .ownFrameSent s = .next (s.wireFree.afterFrame f (some o) .none) := by
      obtain hs | ⟨hs, hself⟩ := hs
      · have hoff : s.onTrunk = false ∧ s.ctl.station ≠ .detached := by
          rw [State.onTrunk]
          revert hs
          cases s.ctl.station <;> decide
        exact exec_ownFrameSent_of_left h hoff.1 hoff.2
      · exact exec_ownFrameSent_of_detached h hs hself
    rw [hfree]
    refine ⟨fun src hf => ?_, fun hf => ?_⟩
    · rw [hf]
      rfl
    · rw [State.afterFrame_slot _ _ _ _ rfl hf]
      rfl

/-! ### Entry to DETACHED (R182) -/

/-- R114: ending the requests reads the ORT, the lists and the port, and changes the ORT and the lists. -/
theorem State.abortRequests_withEvents (s : State) (u : EventUnit) :
    ({ s with events := u } : State).abortRequests = { s.abortRequests with events := u } := by
  simp only [State.abortRequests, State.entry, State.granted]

/-- R182: entry to DETACHED, block by block. -/
theorem State.detach_eq (s : State) (kind : FaultKind) :
    s.detach kind =
      { s with
        ctl := { s.ctl with station := .detached }
        presence := { s.presence with beaconTimer := .stopped, beaconQueued := false }
        tif :=
          { s.tif with
            exchange := s.tif.exchange.map (fun e => if e.begun then e else { e with mark := .none })
            corruptNext := false }
        target := { service := [], responses := [], nonPosted := 0 }
        issue := s.abortRequests.issue
        ort := s.abortRequests.ort
        completion := s.abortRequests.completion
        mailbox := { s.mailbox with reserved := 0 }
        port := s.port.map (fun op => if op.requester = .target then { op with discard := true } else op)
        events := s.events.raiseFault .detached ⟨kind, s.ctl.station, .station s.ctl.number⟩ } := by
  rw [State.detach, State.onEvents, State.abortRequests_withEvents]
  simp only [State.emptyTarget, State.stopBeacon, State.dropUnbegunMark, State.abortRequests_pending,
    State.abortRequests_held, State.abortRequests_ctl, State.abortRequests_windows, State.abortRequests_access,
    State.abortRequests_presence, State.abortRequests_tif, State.abortRequests_mailbox, State.abortRequests_port,
    State.abortRequests_host, State.abortRequests_localMem, State.abortRequests_freeIndex]
  rfl

/-- R182: what entry to DETACHED does to each block. -/
theorem State.detach_entersDetached (s : State) (kind : FaultKind) : EntersDetached s (s.detach kind) kind := by
  rw [State.detach_eq]
  refine ⟨rfl, rfl, s.abortRequests_requestsEnded.of_blocks_eq rfl rfl rfl, ?_, ⟨rfl, rfl, rfl⟩, rfl, rfl, rfl, rfl⟩
  rw [State.abortRequests_issue]


/-! ### A collision (R24, R41, R42) -/

/-- R41: sync is LOST, and the change from IN_SYNC raises SYNC_LOST. -/
theorem State.loseSync_eq (s : State) :
    s.loseSync =
      { s with
        access := { s.access with sync := .lost }
        events := if s.access.sync = .inSync then s.events.raiseTrunk .syncLost else s.events } := by
  rw [State.loseSync]
  cases s.access.sync <;> rfl

theorem exec_collision_of_none (h : s.tif.tx = none) : exec .collision s = .next s := by
  change execCollision s = _
  rw [execCollision, h]

/-- R24: on the trunk the collision goes to the Access Unit. -/
theorem exec_collision_of_onTrunk (h : s.tif.tx ≠ none) (hon : s.onTrunk = true) :
    exec .collision s = .next s.abandoned.accessCollision := by
  obtain ⟨tx, htx⟩ := Option.ne_none_iff_exists'.mp h
  change execCollision s = _
  rw [execCollision, htx]
  exact congrArg _ (if_pos hon)

/-- R22: elsewhere it is counted and nothing more. -/
theorem exec_collision_of_left (h : s.tif.tx ≠ none) (hoff : s.onTrunk = false) :
    exec .collision s = .next s.abandoned := by
  obtain ⟨tx, htx⟩ := Option.ne_none_iff_exists'.mp h
  change execCollision s = _
  rw [execCollision, htx]
  exact congrArg _ (if_neg (by simp [hoff]))

/-- Settles O30: off the trunk, and on it by the collisions before. -/
theorem collisionAbandonsTheFrame : Obligations.CollisionAbandonsTheFrame := by
  refine fun s => ⟨exec_collision_of_none, fun h => ?_⟩
  intro abandoned lost
  have hlost : ∀ n, s.abandoned.collided n = lost n := by
    intro n
    rw [State.collided, State.loseSync_eq]
    rfl
  refine ⟨fun hs => ?_, fun hs => ?_⟩
  · refine exec_collision_of_left h ?_
    rw [State.onTrunk]
    revert hs
    cases s.ctl.station <;> decide
  · have hon : s.onTrunk = true := s.onTrunk_iff.mpr (by simpa using hs)
    rw [exec_collision_of_onTrunk h hon]
    refine ⟨fun hc => ?_, fun hc => ⟨_, rfl, ?_⟩⟩
    · rw [State.accessCollision_counted (s := s.abandoned) hc, ← hlost]
      rfl
    · rw [State.accessCollision_limit (s := s.abandoned) hc.ge, hlost]
      exact State.detach_entersDetached _ _

/-! ### BEACON and corrupt receptions (R23, R26) -/

/-- R23: with the receiver off, no frame incoming or an own frame on the wire, no frame is taken. -/
theorem State.hearsFrame_eq_false (h : s.ctl.station ∈ [StationState.loading, .config] ∨ s.tif.incoming = false
    ∨ s.tif.tx ≠ none) : s.hearsFrame = false := by
  rw [← Bool.not_eq_true, State.hearsFrame_iff]
  rintro ⟨hon, htx, hin⟩
  obtain h | h | h := h
  · simp [(receiverOff_iff s).mpr h] at hon
  · simp [h] at hin
  · exact h htx

theorem exec_beaconReceived_of_deaf (h : s.hearsFrame = false) (src : StationNo) :
    exec (.beaconReceived src) s = .next s := by
  change execBeaconReceived src s = _
  rw [execBeaconReceived, if_neg (by simp [h])]

/-- R21: a clean BEACON. -/
theorem exec_beaconReceived_of_hears (h : s.hearsFrame = true) (src : StationNo) :
    exec (.beaconReceived src) s = .next (s.receive (.beacon src) none) := by
  change execBeaconReceived src s = _
  rw [execBeaconReceived, if_pos h]

theorem exec_corruptReception_of_deaf (h : s.hearsFrame = false) (slotFollows : Bool) :
    exec (.corruptReception slotFollows) s = .next s := by
  change execCorruptReception slotFollows s = _
  rw [execCorruptReception, if_neg (by simp [h])]

/-- R26: a corrupt reception. -/
theorem exec_corruptReception_of_hears (h : s.hearsFrame = true) (slotFollows : Bool) :
    exec (.corruptReception slotFollows) s = .next (s.receiveCorrupt slotFollows) := by
  change execCorruptReception slotFollows s = _
  rw [execCorruptReception, if_pos h]

/-- The slot behind a corrupt frame, in which the station drives this mark. -/
def corruptSlot (slotFollows : Bool) (mark : Mark) (number : StationNo) : Option Exchange :=
  if slotFollows then some ⟨none, mark, false, number⟩ else none

/-- R22, log entry 10: the slot behind a corrupt frame, or the CORRUPT mark waiting for it. -/
theorem Tif.frameEnded_corruptSlot (t : Tif) (slotFollows : Bool) (mark : Mark) (number : StationNo) :
    t.frameEnded (corruptSlot slotFollows mark number) =
      if t.uninvolved = true then
        { t with exchange := corruptSlot slotFollows mark number, incoming := false, trunk := .busy }
      else
        { t with
          corruptNext := t.corruptNext || (slotFollows && decide (mark = .corrupt))
          incoming := false
          trunk := .busy } := by
  rw [Tif.frameEnded]
  cases slotFollows <;> rfl

/-- R26: a corrupt reception in DETACHED is counted. -/
theorem State.receiveCorrupt_of_detached (h : s.ctl.station = .detached) (slotFollows : Bool) :
    s.receiveCorrupt slotFollows =
      { s with
        tif := s.tif.frameEnded (corruptSlot slotFollows .none s.ctl.number)
        events := s.events.countCorruptFrame } := by
  have hoff : s.onTrunk = false := by simp [State.onTrunk, h]
  rw [State.receiveCorrupt, if_pos h, hoff]
  rfl

/-- R26, R41: elsewhere it loses sync, and the trunk's stations mark it. -/
theorem State.receiveCorrupt_of_listening (h : s.ctl.station ≠ .detached) (slotFollows : Bool) :
    s.receiveCorrupt slotFollows =
      { s with
        access := { s.access with sync := .lost }
        tif := s.tif.frameEnded (corruptSlot slotFollows (if s.onTrunk then .corrupt else .none) s.ctl.number)
        events :=
          if s.access.sync = .inSync then s.events.countCorruptFrame.raiseTrunk .syncLost
          else s.events.countCorruptFrame } := by
  rw [State.receiveCorrupt, if_neg h, State.loseSync_eq]
  rfl

/-- R25: a clean BEACON of another station outside DETACHED. -/
theorem State.receive_beacon (h : s.ctl.station ≠ .detached) {src : StationNo} (hsrc : src ≠ s.ctl.number) :
    s.receive (.beacon src) none = { s.heard src with tif := s.tif.frameEnded none } :=
  State.receive_of_kind (f := .beacon src) h fun hown => hsrc hown.2

/-- R25: a clean BEACON in DETACHED. -/
theorem State.receive_beacon_of_detached (h : s.ctl.station = .detached) (src : StationNo) :
    s.receive (.beacon src) none =
      { s.heard src with access := s.access, tif := s.tif.frameEnded none } := by
  rw [State.receive_of_detached h, State.presenceHeard_eq]
  rfl

/-- R48: a timer that a frame has just restarted does not expire. -/
theorem State.heard_not_expired (s : State) (src : StationNo) : (s.heard src).presence.table[src] ≠ .present 0 := by
  rw [State.heard]
  dsimp only
  split
  · next h =>
    rw [h]
    nofun
  · rw [Fin.getElem_fin, Vector.getElem_set_self]
    nofun

/-! ### The end of a slot behind which a CORRUPT mark waits (log entry 10) -/

/-- The state with this Trunk Interface. -/
def State.withTif (s : State) (x : Tif) : State := { s with tif := x }

theorem State.readBack_withTif (s : State) (x : Tif) (mark : Mark) (out : SlotOutcome) :
    (s.withTif x).readBack mark out = (s.readBack mark out).withTif x := by
  have hc : (s.withTif x).ctl = s.ctl := rfl
  have ht : (s.withTif x).onTrunk = s.onTrunk := rfl
  simp only [State.readBack, hc, ht]
  repeat' split
  all_goals rfl

theorem State.requestOutcome_withTif (s : State) (x : Tif) (g : Tag) (out : SlotOutcome) :
    (s.withTif x).requestOutcome g out = (s.requestOutcome g out).withTif x := by
  have he : (s.withTif x).entry g = s.entry g := rfl
  simp only [State.requestOutcome, he]
  repeat' split
  all_goals rfl

theorem State.completionOutcome_withTif (s : State) (x : Tif) (out : CompletionOutcome) :
    (s.withTif x).completionOutcome out = (s.completionOutcome out).withTif x := by
  have ht : (s.withTif x).target = s.target := rfl
  simp only [State.completionOutcome, ht]
  repeat' split
  all_goals rfl

theorem State.handOutcome_withTif (s : State) (x : Tif) (sender : Option Origin) (out : SlotOutcome) :
    (s.withTif x).handOutcome sender out = (s.handOutcome sender out).withTif x := by
  rcases sender with _ | g | d | _
  · rfl
  · exact s.requestOutcome_withTif x g out
  · exact s.completionOutcome_withTif x (out.reduce d)
  · rfl

/-- Log entry 10: the slot ends, and that of the CORRUPT mark is the next. -/
theorem exec_slotEnd_corruptNext {e : Exchange} (he : s.tif.exchange = some e) (hb : e.begun = true)
    (hc : s.tif.corruptNext = true) (cells : SlotCells) :
    ∃ t, exec (.slotEnd cells) { s with tif := { s.tif with corruptNext := false } } = .next t ∧
      exec (.slotEnd cells) s = .next
        { t with tif := { t.tif with exchange := some ⟨none, .corrupt, false, s.ctl.number⟩ } } := by
  refine ⟨_, exec_slotEnd (s := s.withTif { s.tif with corruptNext := false }) he hb rfl cells, ?_⟩
  rw [State.readBack_withTif, State.handOutcome_withTif]
  change execSlotEnd cells s = _
  rw [execSlotEnd, he]
  dsimp only
  have hctl : ((s.readBack e.mark cells.resolve).handOutcome e.sender cells.resolve).ctl = s.ctl := by
    rw [State.handOutcome_ctl, State.readBack_ctl]
  rw [if_pos hb, State.handOutcome_tif, State.readBack_tif, Tif.slotEnded, hc, ← hctl]
  rfl

/-- Settles O34: by what the receiver takes, then by the station state. -/
theorem beaconAndCorruptReceptions : Obligations.BeaconAndCorruptReceptions := by
  refine fun src slotFollows s => ⟨fun h => ?_, fun htx hin => ?_, fun cells e he hb hc =>
    exec_slotEnd_corruptNext he hb hc cells⟩
  · have hdeaf := State.hearsFrame_eq_false h
    exact ⟨exec_beaconReceived_of_deaf hdeaf src, exec_corruptReception_of_deaf hdeaf slotFollows⟩
  · intro presence events counted after slot
    have hquiet : s.tifQuiet = s.tif.uninvolved := by simp [State.tifQuiet, htx]
    have hears : s.ctl.station ∈ [StationState.joining, .online, .draining, .detached] → s.hearsFrame = true :=
      fun hs => s.hearsFrame_iff.mpr ⟨s.receiverOn_iff.mpr hs, htx, hin⟩
    have hafter : s.tif.frameEnded none = after := by rw [Tif.frameEnded_none, ← hquiet]
    have hslot : ∀ m, s.tif.frameEnded (corruptSlot slotFollows m s.ctl.number) = slot m := by
      intro m
      rw [Tif.frameEnded_corruptSlot, ← hquiet]
      rfl
    refine ⟨fun hs => ?_, fun hs => ⟨?_, ?_⟩⟩
    · have hon : s.ctl.station ∈ [StationState.joining, .online, .draining, .detached] ∧ s.ctl.station ≠ .detached := by
        revert hs
        cases s.ctl.station <;> decide
      have hmark : (if s.onTrunk then Mark.corrupt else .none) =
          if s.ctl.station = .joining then .none else .corrupt := by
        rw [State.onTrunk]
        revert hs
        cases s.ctl.station <;> decide
      refine ⟨fun hsrc => ⟨?_, exec_presenceTimeout_notExpired (s.heard_not_expired src)⟩, ?_⟩
      · rw [exec_beaconReceived_of_hears (hears hon.1), State.receive_beacon hon.2 hsrc, hafter]
        rfl
      · rw [exec_corruptReception_of_hears (hears hon.1), State.receiveCorrupt_of_listening hon.2, hmark, hslot]
        rfl
    · rw [exec_beaconReceived_of_hears (hears (by rw [hs]; decide)), State.receive_beacon_of_detached hs, hafter]
      rfl
    · rw [exec_corruptReception_of_hears (hears (by rw [hs]; decide)), State.receiveCorrupt_of_detached hs, hslot]
      rfl

/-! ### A duplicate (R35, R178, R182) -/

/-- The command is the clean reception of this frame, well-formed. -/
def Receives (number : StationNo) (i : Instr) (f : Frame) : Prop :=
  i = .beaconReceived number ∧ f = .beacon number
    ∨ (∃ r : ReqFrame, i = .requestFrameReceived r ∧ f = .request r ∧ r.wf = true)
    ∨ (∃ c : CplFrame, i = .completionFrameReceived c ∧ f = .completion c ∧ c.wf = true)

/-- R23, R25: a clean frame is received by a quiet station; a BEACON by one that has part in a slot, too. -/
theorem exec_of_receives {number : StationNo} {i : Instr} {f : Frame} (h : Receives number i f)
    (hon : s.receiverOn = true) (htx : s.tif.tx = none) (hin : s.tif.incoming = true)
    (hquiet : f = .beacon number ∨ s.tifQuiet = true) : exec i s = .next (s.receive f none) := by
  obtain ⟨rfl, rfl⟩ | ⟨r, rfl, rfl, hwf⟩ | ⟨c, rfl, rfl, hwf⟩ := h
  · exact exec_beaconReceived_of_hears (s.hearsFrame_iff.mpr ⟨hon, htx, hin⟩) number
  · exact exec_requestFrameReceived_of_wf (s.receives_iff.mpr ⟨hon, hin, hquiet.resolve_left nofun⟩) hwf
  · exact exec_completionFrameReceived_of_wf (s.receives_iff.mpr ⟨hon, hin, hquiet.resolve_left nofun⟩) hwf

/-- R35: in JOINING a duplicate fails the join. -/
theorem State.duplicate_of_joining (h : s.ctl.station = .joining) (f : Frame) :
    s.duplicate f = (s.afterFrame f none .none).failJoin := if_pos h

/-- R35: on the trunk a duplicate detaches the station. -/
theorem State.duplicate_of_not_joining (h : s.ctl.station ≠ .joining) (f : Frame) :
    s.duplicate f = (s.afterFrame f none .none).detach .duplicateStation := if_neg h

/-- R22: a frame behind which the station drives no mark leaves a quiet TIF quiet. -/
theorem State.afterFrame_quiet (h : s.tifQuiet = true) (f : Frame) : (s.afterFrame f none .none).tifQuiet = true := by
  obtain ⟨htx, hfree⟩ := s.tifQuiet_iff.mp h
  obtain ⟨hcorrupt, -⟩ := (Tif.uninvolved_iff _).mp hfree
  have htif : (s.afterFrame f none .none).tif = _ := Tif.frameEnded_uninvolved hfree _
  rw [State.tifQuiet_iff, State.afterFrame_tx, Tif.uninvolved_iff, htif]
  refine ⟨htx, hcorrupt, fun e he => ?_⟩
  rw [Exchange.uninvolved_iff]
  cases f with
  | beacon src => cases he
  | request r | completion c =>
    cases he
    exact ⟨rfl, rfl⟩

/-- R178: the failed join of a quiet station. -/
theorem State.failJoin_of_quiet (h : s.tifQuiet = true) :
    s.failJoin =
      { s with
        ctl := { s.ctl with station := .config, joinHoldoff := none }
        access := { s.access with sync := .lost, collisions := 0 }
        presence := { table := presenceCleared s.ctl.number, beaconTimer := .stopped, beaconQueued := false }
        tif := { tx := none, exchange := none, corruptNext := false, incoming := false, trunk := .busy }
        events := s.events.raiseFault .joinDuplicate ⟨.joinDuplicate, s.ctl.station, .station s.ctl.number⟩ } := by
  rw [State.failJoin, State.leaveTrunk_of_quiet (s := s.onEvents _) h]
  rfl

/-- R22, log entry 10: a frame behind which the station drives no mark. -/
theorem State.afterFrame_unmarked {f : Frame} (h : f = .beacon s.ctl.number ∨ s.tifQuiet = true)
    (hf : f.source = s.ctl.number) (htx : s.tif.tx = none) :
    s.afterFrame f none .none =
      { s with
        tif :=
          { s.tif with
            exchange :=
              if s.tifQuiet = true then
                (if f = .beacon s.ctl.number then none else some ⟨none, .none, false, s.ctl.number⟩)
              else s.tif.exchange
            incoming := false
            trunk := .busy } } := by
  have hquiet : s.tifQuiet = s.tif.uninvolved := by simp [State.tifQuiet, htx]
  cases f with
  | beacon src =>
    obtain rfl : src = s.ctl.number := hf
    rw [if_pos rfl, State.afterFrame, Tif.frameEnded_none, hquiet]
  | request r =>
    have hq := h.resolve_left nofun
    rw [if_pos hq, if_neg nofun, State.afterFrame_of_request (hquiet.symm.trans hq)]
    rfl
  | completion c =>
    have hq := h.resolve_left nofun
    rw [if_pos hq, if_neg nofun, State.afterFrame_of_completion (hquiet.symm.trans hq)]
    rfl

/-- Settles O35: the failed join in JOINING, entry to DETACHED on the trunk. -/
theorem duplicateLeavesTheTrunk : Obligations.DuplicateLeavesTheTrunk := by
  intro i f s hi hsrc hin hself
  have hheard : s.heard f.source =
      { s with access := { s.access with rotation := s.ctl.number, sync := .inSync } } := by
    rw [hsrc, State.heard_of_self hself]
  refine ⟨fun hs hquiet => ?_, fun hs htx hquiet => ?_⟩
  · rw [exec_of_receives hi (s.receiverOn_iff.mpr (by rw [hs]; decide)) (s.tifQuiet_iff.mp hquiet).1 hin (.inr hquiet),
      State.receive_of_duplicate (by rw [hs]; decide) hsrc, State.duplicate_of_joining (s := s.heard f.source) hs,
      State.failJoin_of_quiet (State.afterFrame_quiet (s := s.heard f.source) hquiet f), hheard, ← hs]
    rfl
  · have hon : s.ctl.station ∈ [StationState.joining, .online, .draining, .detached] ∧ s.ctl.station ≠ .detached
        ∧ s.ctl.station ≠ .joining := by
      revert hs
      cases s.ctl.station <;> decide
    obtain ⟨hlistens, hdetached, hjoining⟩ := hon
    refine ⟨_, exec_of_receives hi (s.receiverOn_iff.mpr hlistens) htx hin hquiet, ?_⟩
    rw [State.receive_of_duplicate hdetached hsrc, State.duplicate_of_not_joining (s := s.heard f.source) hjoining,
      State.afterFrame_unmarked (s := s.heard f.source) hquiet hsrc htx, hheard]
    exact State.detach_entersDetached _ _

variable {s : State}

/-! ### What the station offers in a slot (R38, R39) -/

/-- R38: the position, counted from the rotation point. -/
theorem position_val (own rotation : StationNo) : (position own rotation).val = (own.val + 15 - rotation.val) % 16 := by
  simp only [position, Fin.sub_def]
  change (16 - 1 + (16 - rotation.val + own.val) % 16) % 16 = _
  omega

/-- R38: the slot in which a completion waiting is offered. -/
def State.completionSlot (s : State) (slot : Fin 48) : Prop :=
  (s.access.sync = .inSync ∧ slot.val = (position s.ctl.number s.access.rotation).val)
    ∨ (s.access.sync = .lost ∧ slot.val = 32 + s.ctl.number.val)

/-- R38: the slot in which a request, and behind it a beacon, is offered. -/
def State.requestSlot (s : State) (slot : Fin 48) : Prop :=
  (s.access.sync = .inSync ∧ slot.val = 16 + (position s.ctl.number s.access.rotation).val)
    ∨ (s.access.sync = .lost ∧ slot.val = 32 + s.ctl.number.val ∧ s.target.responses = [])

/-- R88: the first entry of the unsent list is READY. -/
def State.readyFirst (s : State) : Prop := ∃ g rest, s.issue.unsent = g :: rest ∧ (s.entry g).state = .ready

theorem State.offerCompletion_of_nil (h : s.target.responses = []) : s.offerCompletion = none := by
  rw [State.offerCompletion, h]
  rfl

theorem State.offerCompletion_of_cons {r : ResponseEntry} {rest : List ResponseEntry}
    (h : s.target.responses = r :: rest) :
    s.offerCompletion = some ⟨.completion (completionFrame s.ctl.number r), .completion r.destination⟩ := by
  rw [State.offerCompletion, h]
  rfl

theorem State.offerRequest_of_ready {g : Tag} {rest : List Tag} (h : s.issue.unsent = g :: rest)
    (hg : (s.entry g).state = .ready) :
    s.offerRequest = some ⟨.request (requestFrame s.ctl.number g (s.entry g)), .request g⟩ := by
  rw [State.offerRequest, h]
  exact if_pos hg

theorem State.offerRequest_of_not_ready (h : ¬ s.readyFirst) : s.offerRequest = none := by
  rw [State.offerRequest]
  cases hu : s.issue.unsent with
  | nil => rfl
  | cons g rest => exact if_neg fun hg => h ⟨g, rest, hu, hg⟩

/-- R38: a completion waiting has its slot first. -/
theorem State.offer_of_completionSlot {slot : Fin 48} (h : s.completionSlot slot) {r : ResponseEntry}
    {rest : List ResponseEntry} (hr : s.target.responses = r :: rest) :
    s.offer slot = some ⟨.completion (completionFrame s.ctl.number r), .completion r.destination⟩ := by
  rw [State.offer]
  obtain ⟨hsync, hslot⟩ | ⟨hsync, hslot⟩ := h
  · rw [hsync]
    exact (if_pos hslot).trans (State.offerCompletion_of_cons hr)
  · rw [hsync, State.offerCompletion_of_cons hr]
    exact if_pos hslot

/-- R38: a request, then a beacon. -/
theorem State.offer_of_requestSlot {slot : Fin 48} (h : s.requestSlot slot) :
    s.offer slot = (s.offerRequest <|> s.offerBeacon) := by
  rw [State.offer]
  obtain ⟨hsync, hslot⟩ | ⟨hsync, hslot, hr⟩ := h
  · rw [hsync]
    exact (if_neg (by omega)).trans (if_pos hslot)
  · rw [hsync, State.offerCompletion_of_nil hr]
    exact if_pos hslot

/-- R38: in every other slot the station offers nothing. -/
theorem State.offer_of_other {slot : Fin 48} (hc : ¬ (s.completionSlot slot ∧ s.target.responses ≠ []))
    (hr : ¬ (s.requestSlot slot ∧ (s.readyFirst ∨ s.presence.beaconQueued = true))) : s.offer slot = none := by
  by_cases hreq : s.requestSlot slot
  · have hnone : ¬ s.readyFirst ∧ s.presence.beaconQueued = false := by simpa [hreq] using hr
    rw [State.offer_of_requestSlot hreq, State.offerRequest_of_not_ready hnone.1, State.offerBeacon, hnone.2]
    rfl
  · by_cases hcpl : s.completionSlot slot
    · have hnil : s.target.responses = [] := by simpa [hcpl] using hc
      obtain ⟨hsync, hslot⟩ | ⟨hsync, hslot⟩ := hcpl
      · rw [State.offer, hsync]
        exact (if_pos hslot).trans (State.offerCompletion_of_nil hnil)
      · exact absurd (.inr ⟨hsync, hslot, hnil⟩) hreq
    · rw [State.offer]
      cases hsync : s.access.sync with
      | inSync =>
        exact (if_neg fun h => hcpl (.inl ⟨hsync, h⟩)).trans (if_neg fun h => hreq (.inl ⟨hsync, h⟩))
      | lost => exact if_neg fun h => hcpl (.inr ⟨hsync, h⟩)

/-! ### The slot begins (R37, R39) -/

theorem exec_contentionSlot_of_other {slot : Fin 48} (h : s.tif.trunk ≠ .idle slot.val) :
    exec (.contentionSlot slot) s = .next s := by
  change execContentionSlot slot s = _
  unfold execContentionSlot
  split
  · rfl
  · next n hn =>
    rw [if_neg]
    rintro ⟨hslot, -⟩
    exact h (hslot ▸ hn)

theorem exec_contentionSlot_of_deaf (h : s.countsSlots = false) (slot : Fin 48) :
    exec (.contentionSlot slot) s = .next s := by
  change execContentionSlot slot s = _
  unfold execContentionSlot
  split
  · rfl
  · exact congrArg _ (if_neg fun hc => by simp [h] at hc)

/-- R39: the next slot begins. -/
theorem exec_contentionSlot_of_next {slot : Fin 48} (ht : s.tif.trunk = .idle slot.val) (h : s.countsSlots = true) :
    exec (.contentionSlot slot) s = .next (s.beginSlot slot) := by
  change execContentionSlot slot s = _
  rw [execContentionSlot, ht]
  exact congrArg _ (if_pos ⟨rfl, h⟩)

/-- R39: a slot in which the station starts nothing is counted. -/
theorem State.beginSlot_of_none {slot : Fin 48} (h : s.onTrunk = false ∨ s.offer slot = none) :
    s.beginSlot slot = { s with tif := { s.tif with trunk := .idle (slot.val + 1) } } := by
  have hnone : (if s.onTrunk then s.offer slot else none) = none := by
    obtain h | h := h <;> simp [h]
  rw [State.beginSlot, hnone]

/-- R39: a slot in which the station starts a frame ends the round. -/
theorem State.beginSlot_of_some {slot : Fin 48} (hon : s.onTrunk = true) {tx : Transmission}
    (h : s.offer slot = some tx) : s.beginSlot slot = s.startFrame tx := by
  rw [State.beginSlot, if_pos hon, h]

/-- Settles O28: by the station state, and on the trunk by what the station offers. -/
theorem contentionSlotStartsTheOfferedFrame : Obligations.ContentionSlotStartsTheOfferedFrame := by
  refine fun slot s => ⟨exec_contentionSlot_of_other, fun _ h => ?_, fun ht hquiet => ?_⟩
  · refine exec_contentionSlot_of_deaf ?_ slot
    obtain h | h := h
    · rw [State.countsSlots, (receiverOff_iff s).mpr h, Bool.false_and]
    · rw [State.countsSlots, h, Bool.and_false]
  · intro own p started counted forCompletion forRequest readyFirst
    have hp : (position s.ctl.number s.access.rotation).val = p := position_val _ _
    have hcpl : s.completionSlot slot ↔ forCompletion := by rw [State.completionSlot, hp]
    have hreq : s.requestSlot slot ↔ forRequest := by rw [State.requestSlot, hp]
    have hnext : s.ctl.station ∈ [StationState.joining, .online, .draining, .detached] →
        exec (.contentionSlot slot) s = .next (s.beginSlot slot) := fun hs =>
      exec_contentionSlot_of_next ht (by rw [State.countsSlots, s.receiverOn_iff.mpr hs, hquiet]; rfl)
    refine ⟨fun hs => ?_, fun hs => ?_⟩
    · have hoff : s.ctl.station ∈ [StationState.joining, .online, .draining, .detached] ∧ s.onTrunk = false := by
        rw [State.onTrunk]
        revert hs
        cases s.ctl.station <;> decide
      rw [hnext hoff.1, State.beginSlot_of_none (.inl hoff.2)]
    · have hon : s.ctl.station ∈ [StationState.joining, .online, .draining, .detached] ∧ s.onTrunk = true := by
        rw [State.onTrunk]
        revert hs
        cases s.ctl.station <;> decide
      rw [hnext hon.1]
      refine ⟨fun r rest hslot hr => ?_, fun g rest hslot hu hg => ?_, fun hslot hnot hq => ?_, fun hnc hnr => ?_⟩
      · rw [State.beginSlot_of_some hon.2 (State.offer_of_completionSlot (hcpl.mpr hslot) hr), State.startFrame]
        dsimp only
        rw [hr]
        rfl
      · have hoffer : s.offer slot = some ⟨.request (requestFrame s.ctl.number g (s.entry g)), .request g⟩ := by
          rw [State.offer_of_requestSlot (hreq.mpr hslot), State.offerRequest_of_ready hu hg]
          rfl
        rw [State.beginSlot_of_some hon.2 hoffer]
        rfl
      · have hoffer : s.offer slot = some ⟨.beacon s.ctl.number, .beacon⟩ := by
          rw [State.offer_of_requestSlot (hreq.mpr hslot), State.offerRequest_of_not_ready hnot, State.offerBeacon,
            if_pos hq]
          rfl
        rw [State.beginSlot_of_some hon.2 hoffer]
        rfl
      · rw [State.beginSlot_of_none (.inr (State.offer_of_other (fun h => hnc ⟨hcpl.mp h.1, h.2⟩)
          fun h => hnr ⟨hreq.mp h.1, h.2⟩))]

end Sys2Proof.Machine
end

section
/-! PROOFS. Chapters 2 and 13 (the trunk's encodings): a frame is read back from its bytes, behind its check, and
from the levels on the line; what a station that transmits sees (O52). -/

namespace Sys2Proof.Machine

/-! ### The check (R184) -/

/-- R184: a bit equal to the register's top bit shifts the register and adds nothing. -/
theorem crcBit_top (r : BitVec 16) : crcBit r (r.getLsbD 15) = r <<< 1 := by simp [crcBit]

/-- R184: behind its own upper byte a register stands shifted by that byte. -/
theorem crcByte_upper (r : BitVec 16) : crcByte r (r.extractLsb' 8 8) = r <<< 8 := by
  have next (i : Nat) (hi : i < 15) : crcBit (r <<< i) (r.getLsbD (15 - i)) = r <<< (i + 1) := by
    have htop : (r <<< i).getLsbD 15 = r.getLsbD (15 - i) := by
      rw [BitVec.getLsbD_shiftLeft, decide_eq_false (by omega : ¬ 15 < i)]; simp
    rw [← htop, crcBit_top, BitVec.shiftLeft_add]
  simp only [crcByte, List.foldl_cons, List.foldl_nil, BitVec.getLsbD_extractLsb']
  simp only [Nat.reduceLT, Nat.reduceAdd, decide_true, Bool.true_and]
  rw [crcBit_top, next 1 (by omega), next 2 (by omega), next 3 (by omega), next 4 (by omega), next 5 (by omega),
    next 6 (by omega), next 7 (by omega)]

/-- R184: behind its own two bytes the register is 0. -/
theorem foldl_crcByte_self (r : BitVec 16) : (bytes2 r).foldl crcByte r = 0 := by
  have hlower : r.extractLsb' 0 8 = (r <<< 8).extractLsb' 8 8 := by
    ext i hi
    simp [show ¬ 8 + i < 8 by omega, show 8 + i < 16 by omega, BitVec.getLsbD_eq_getElem (show i < 16 by omega)]
  rw [bytes2, List.foldl_cons, List.foldl_cons, List.foldl_nil, crcByte_upper, hlower, crcByte_upper,
    ← BitVec.shiftLeft_add]
  exact BitVec.shiftLeft_eq_zero (by omega)

/-- R184: bytes with their check have the remainder 0. -/
theorem crc16_withCheck (bs : List Byte) : crc16 (withCheck bs) = 0 := by
  rw [withCheck, crc16, List.foldl_append]
  exact foldl_crcByte_self _

/-- R184: the frame that is read is that of the bytes before the check. -/
theorem decodeFrame_withCheck (bs : List Byte) : decodeFrame (withCheck bs) = parseFrame bs := by
  have hlen : (withCheck bs).length = bs.length + 2 := by simp [withCheck, bytes2]
  have hbody : (withCheck bs).take ((withCheck bs).length - 2) = bs := by
    rw [hlen, Nat.add_sub_cancel, withCheck, List.take_left]
  rw [decodeFrame, if_pos ⟨by omega, crc16_withCheck bs⟩, hbody]

/-- R23: a bad check makes the frame corrupt. -/
theorem receptionCommand_of_badCheck {bs : List Byte} (h : crc16 bs ≠ 0) :
    receptionCommand (.delimited bs) = .corruptReception true := by
  have hbad : decodeFrame bs = none := if_neg fun hc => h hc.2
  simp only [receptionCommand, hbad]

/-! ### Fields read back (R18, R184) -/

/-- R184: the upper of two four-bit fields of a byte. -/
theorem high4_natByte {k : Nat} (n : Fin 16) (h : k < 16) : high4 (natByte (16 * k + n.val)) = k := by
  rw [high4, natByte_toNat (by omega)]
  omega

/-- R184: the lower of two four-bit fields of a byte. -/
theorem low4_natByte {k : Nat} (n : Fin 16) (h : k < 16) : low4 (natByte (16 * k + n.val)) = n := by
  rw [low4, natByte_toNat (by omega)]
  refine Fin.ext ?_
  change (16 * k + n.val) % 16 = n.val
  omega

/-- R184: a tag is read back from its byte. -/
theorem low4_natByte_val (n : Fin 16) : low4 (natByte n.val) = n := by
  simpa using low4_natByte (k := 0) n (by omega)

theorem high4_kindByte {k : Nat} (src : StationNo) (h : k < 16) : high4 (kindByte k src) = k := high4_natByte src h

theorem low4_kindByte {k : Nat} (src : StationNo) (h : k < 16) : low4 (kindByte k src) = src := low4_natByte src h

/-- R184: a data count of at most 64 is read back from its byte. -/
theorem natByte_toNat_of_le {n : Nat} (h : n ≤ 64) : (natByte n).toNat = n := natByte_toNat (by omega)

/-- R184: the status code is read back, whatever the swapped flag. -/
theorem CplFrame.statusByte_code (f : CplFrame) :
    (f.statusByte &&& 0x0F).toNat = (match f.status with | .ok => 0 | .memoryFault => 1) := by
  rw [CplFrame.statusByte]
  cases f.status <;> cases f.swapped <;> rfl

/-- R184: the swapped flag is read back, whatever the status. -/
theorem CplFrame.statusByte_swapped (f : CplFrame) : f.statusByte.getLsbD 7 = f.swapped := by
  rw [CplFrame.statusByte]
  cases f.status <;> cases f.swapped <;> rfl

/-! ### Frames read back from their bytes -/

/-- R184: kinds 1 to 4 are requests. -/
theorem parseFrame_of_request {k : Nat} (src : StationNo) (rest : List Byte) (h : 1 ≤ k ∧ k ≤ 4) :
    parseFrame (kindByte k src :: rest) = (parseRequest k src rest).map .request := by
  simp only [parseFrame, high4_kindByte src (show k < 16 by omega), low4_kindByte src (show k < 16 by omega), if_pos h]

/-- R184: kind 5 is a COMPLETION. -/
theorem parseFrame_of_completion (src : StationNo) (rest : List Byte) :
    parseFrame (kindByte 5 src :: rest) = (parseCompletion src rest).map .completion := by
  simp [parseFrame, high4_kindByte, low4_kindByte]

/-- R184: kind 6 is a BEACON, of one byte. -/
theorem parseFrame_beacon (src : StationNo) : parseFrame [kindByte 6 src] = some (.beacon src) := by
  simp [parseFrame, high4_kindByte, low4_kindByte]

/-- R18, R184: a request frame that covers 1..64 bytes is read back. -/
theorem parseFrame_request {f : ReqFrame} (h : f.wf = true) : parseFrame f.bytes = some (.request f) := by
  obtain ⟨src, address, body⟩ := f
  simp only [ReqFrame.wf, ReqBody.wf, Bool.and_eq_true, decide_eq_true_eq] at h
  obtain ⟨hlow, hhigh⟩ := h
  cases body with
  | write d =>
    change parseFrame (kindByte 1 src :: (bytes4 address ++ natByte d.length :: d)) = _
    rw [parseFrame_of_request src _ (by omega)]
    simp only [ReqBody.length] at hlow hhigh
    simp [parseRequest, num4At, byteAt, bytes4, payloadMax, natByte_toNat_of_le hhigh, num4_of_bytes address, hlow,
      hhigh]
  | writeAcked t d =>
    change parseFrame (kindByte 2 src :: (natByte t.val :: bytes4 address ++ natByte d.length :: d)) = _
    rw [parseFrame_of_request src _ (by omega)]
    simp only [ReqBody.length] at hlow hhigh
    simp [parseRequest, num4At, byteAt, bytes4, payloadMax, natByte_toNat_of_le hhigh, num4_of_bytes address, hlow,
      hhigh, low4_natByte_val]
  | read t n =>
    change parseFrame (kindByte 3 src :: (natByte t.val :: bytes4 address ++ [natByte n])) = _
    rw [parseFrame_of_request src _ (by omega)]
    simp only [ReqBody.length] at hlow hhigh
    simp [parseRequest, num4At, byteAt, bytes4, payloadMax, natByte_toNat_of_le hhigh, num4_of_bytes address, hlow,
      hhigh, low4_natByte_val]
  | swap t c n =>
    change parseFrame (kindByte 4 src :: (natByte t.val :: bytes4 address ++ c.toList ++ n.toList)) = _
    rw [parseFrame_of_request src _ (by omega)]
    simp [parseRequest, num4At, word4At, byteAt, bytes4, num4_of_bytes address, low4_natByte_val, Word4.toList_eq,
      Word4.eq_of_bytes]

/-- R18, R184: the fields of a COMPLETION whose data count fits and whose status code is 0 or 1. -/
theorem parseCompletion_of_fits (src : StationNo) (ids status : Byte) {data : List Byte} (hlen : data.length ≤ 64)
    (hcode : (status &&& 0x0F).toNat ≤ 1) :
    parseCompletion src (ids :: status :: natByte data.length :: data) =
      some ⟨src, Fin.ofNat 16 (high4 ids), low4 ids, if (status &&& 0x0F).toNat = 0 then .ok else .memoryFault,
        status.getLsbD 7, data⟩ :=
  if_pos ⟨by simp, (natByte_toNat_of_le hlen).symm, (natByte_toNat_of_le hlen).trans_le hlen, hcode⟩

/-- R18, R184: a COMPLETION with at most 64 data bytes is read back. -/
theorem parseFrame_completion {f : CplFrame} (h : f.wf = true) :
    parseFrame (Frame.completion f).bytes = some (.completion f) := by
  have hlen : f.data.length ≤ 64 := of_decide_eq_true h
  have hcode := f.statusByte_code
  have hle : (f.statusByte &&& 0x0F).toNat ≤ 1 := by rw [hcode]; cases f.status <;> simp
  rw [Frame.bytes, parseFrame_of_completion, parseCompletion_of_fits _ _ _ hlen hle, f.statusByte_swapped, hcode,
    high4_natByte f.tag f.destination.isLt, low4_natByte f.tag f.destination.isLt, Fin.ofNat_val_eq_self]
  obtain ⟨src, dst, tag, status, swapped, data⟩ := f
  cases status <;> rfl

/-- R18, R184: a well-formed frame is read back from its bytes. -/
theorem parseFrame_bytes {f : Frame} (h : f.wf = true) : parseFrame f.bytes = some f := by
  cases f with
  | request f => exact parseFrame_request h
  | completion f => exact parseFrame_completion h
  | beacon src => exact parseFrame_beacon src

/-- R184: a well-formed frame is read back from the bytes it is sent as. -/
theorem decodeFrame_encodeFrame {f : Frame} (h : f.wf = true) : decodeFrame (encodeFrame f) = some f := by
  rw [encodeFrame, decodeFrame_withCheck, parseFrame_bytes h]

/-! ### Frames read from the line (R23, R184) -/

/-- R184: the cell of a bit, written out. -/
theorem LineCell.ofBit_eq :
    (fun b : Bool => if b then (⟨.recessive, .dominant⟩ : LineCell) else ⟨.dominant, .recessive⟩) = ofBit :=
  funext fun b => by cases b <;> rfl

/-- R23: the frame of these data cells is broken, or its bytes are those of their bits. -/
theorem frameEndOf_bits (bits : List Bool) :
    frameEndOf (bits.map LineCell.ofBit) = if bits.length % 8 = 0 then .delimited (packBytes bits) else .broken := by
  simp [frameEndOf, Function.comp_def]

/-- R184: bytes are whole bytes of bits. -/
theorem length_flatMap_byteBits (bs : List Byte) : (bs.flatMap byteBits).length % 8 = 0 := by
  induction bs with
  | nil => rfl
  | cons b bs ih =>
    rw [List.flatMap_cons, List.length_append]
    have : (byteBits b).length = 8 := rfl
    omega

/-- R23: what the receiver takes for the frame of data cells that goes on with these cells, behind idle time. -/
theorem lineCommands_bits {n : Nat} {bits : List Bool} {ending : List LineCell} {e : FrameEnd}
    (h : readCells (bits.map LineCell.ofBit) ending = some e) :
    lineCommands (List.replicate n .recessive ++ (startDelimiter ++ (bits.map LineCell.ofBit ++ ending)))
      = [.startDelimiterSeen, receptionCommand e] := by
  have hread : readLine (List.replicate n .recessive ++ (startDelimiter ++ (bits.map LineCell.ofBit ++ ending)))
      = some e := by
    rw [readLine_idle, readLine_start, readCells_bits, List.nil_append, h]
  simp only [lineCommands, hread]

/-! ### The station that transmits (R24) -/

/-- R24: a cell driven as the station drives it shows as it was driven. -/
theorem LineCell.combine_self (c : LineCell) : c.combine c = c := by
  obtain ⟨_ | _, _ | _⟩ := c <;> rfl

/-- R24: no bit cell shows as it was driven under the abandon sequence. -/
theorem LineCell.combine_dominant_ne (b : Bool) : (ofBit b).combine .dominant ≠ ofBit b := by
  cases b <;> decide

/-- R24: no mismatch is seen when the line shows what the station drove. -/
theorem seesMismatch_eq_false_iff {own others : List LineCell} (h : own.length ≤ others.length) :
    seesMismatch own others = false ↔ List.zipWith LineCell.combine own others = own := by
  induction own generalizing others with
  | nil => simp [seesMismatch]
  | cons c own ih =>
    cases others with
    | nil => simp at h
    | cons o others => simp [seesMismatch, ih (others := others) (by simpa using h)]

/-- R24: the frame is sent when no mismatch is seen. -/
theorem ownCommand_eq_sent_iff {own others : List LineCell} :
    ownCommand own others = .ownFrameSent ↔ seesMismatch own others = false := by
  unfold ownCommand
  cases seesMismatch own others <;> simp

theorem ownCommand_self (own : List LineCell) : ownCommand own own = .ownFrameSent := by
  rw [ownCommand_eq_sent_iff, seesMismatch_eq_false_iff le_rfl, List.zipWith_self]
  simp [LineCell.combine_self]

/-- Settles O52: the check's remainder and the fields for the bytes, and the receiver's run over the data cells for
each way a frame ends on the line. -/
theorem frameRoundTrip : Obligations.FrameRoundTrip := by
  refine ⟨fun f hf => ⟨decodeFrame_encodeFrame hf, crc16_withCheck _, ?_⟩, fun bs => receptionCommand_of_badCheck,
    rfl, rfl, fun n bits rest => ?_, fun b own others => ⟨LineCell.combine_dominant_ne b, ownCommand_self own,
      fun h => ownCommand_eq_sent_iff.trans (seesMismatch_eq_false_iff h)⟩⟩
  · cases f <;> simp only [receptionCommand, decodeFrame_encodeFrame hf]
  · intro received delimiter
    have hline (ending : List LineCell) (e : FrameEnd)
        (h : readCells (bits.map LineCell.ofBit) (ending ++ rest) = some e) :
        received ending = [.startDelimiterSeen, receptionCommand e] := by
      change lineCommands _ = _
      rw [LineCell.ofBit_eq]
      simp only [List.append_assoc]
      exact lineCommands_bits h
    have hend : readCells (bits.map LineCell.ofBit) (delimiter ++ rest) = some (frameEndOf (bits.map LineCell.ofBit)) :=
      readCells_end _ rest
    rw [frameEndOf_bits] at hend
    refine ⟨fun bs hbits => ?_, fun hlen => ?_, hline _ _ (readCells_abandon _ _), hline _ _ (readCells_idle _ _)⟩
    · replace hbits : bits = bs.flatMap byteBits := hbits
      refine ⟨hline _ _ ?_, by rw [LineCell.ofBit_eq, hbits]; rfl⟩
      rw [hend, hbits, if_pos (length_flatMap_byteBits bs), packBytes_byteBits]
    · exact hline _ .broken (by rw [hend, if_neg hlen])

end Sys2Proof.Machine
end
